-- ==== Sys2Proof/Word.lean ====
section
/-! DEFINITION. The words of ERC: what stands on the command channel and the response channel, and the names of the
scalar registers. ERC has no byte-addressed memory and no byte order (R37, R41), so the unit of a word is the whole
32-bit command word; data words are whole integers. -/

namespace Sys2Proof

/-- The 32-bit command word `CMD` of R53, R54. Bit 0 is the least significant bit (R12). -/
abbrev CmdWord := BitVec 32

/-- The 4-bit status code of a response (R53) and the width of `FCAUSE` (R29). -/
abbrev StatusCode := BitVec 4

/-- A scalar register number, `f0 … f15` (R23, R56): a 4-bit field of `CMD`, which cannot be out of range (R42). -/
abbrev Reg := Fin 16

/-- A scalar register or an element of `S` (R20): *no value* (`none`) or an integer, in `[0, P − 1]` in every state a run
reaches. `none` is the spec's own content *no value* of R21, its reset value in R36, and the content that R141 says a read
must stop on. -/
abbrev Elem := Option Nat

end Sys2Proof
end

