-- ==== Sys2Proof/Config.lean ====
section
/-! DEFINITION. What one build of the hardware fixes (R10): `DATA_BITS`, `M_MAX`, `N_MAX`, their bounds and the
capacities derived from them, and the numbers the spec itself fixes. ERC leaves no result of a command open, so no
free value stands here. -/

namespace Sys2Proof

/-- The implementation parameters of R10, "constants of one build of the hardware". The model takes them as an
argument: they stand in `State.build`, which no step changes. -/
structure Build where
  /-- `DATA_BITS` (`D`): the width of `DIN` and `DOUT`. -/
  dataBits : Nat
  /-- `M_MAX`: the largest state width PST can hold. -/
  mMax : Nat
  /-- `N_MAX`: the largest round count PST can hold. -/
  nMax : Nat
  deriving DecidableEq, Repr

/-- `MDS_CAP = M_MAX · M_MAX` entries (R10). -/
def Build.mdsCap (b : Build) : Nat := b.mMax * b.mMax

/-- `RC_CAP = 2 · N_MAX · M_MAX` entries (R10). -/
def Build.rcCap (b : Build) : Nat := 2 * b.nMax * b.mMax

/-- The bounds R10 puts on a build. -/
def Build.ok (b : Build) : Bool :=
  decide (32 ≤ b.dataBits) && decide (4 ≤ b.mMax) && decide (b.mMax ≤ 256) && decide (1 ≤ b.nMax)
    && decide (2 * b.nMax * b.mMax ≤ 65536)

/-- DESIGN CHOICE (log entry 1): the build `State.reset` stands for, the sizes of the spec's test vectors (D42:
`D = 64`, `M_MAX = 16`, `N_MAX = 16`). Every meaning reads the build from the state, never this constant. -/
def Config.build : Build := { dataBits := 64, mMax := 16, nMax := 16 }

/-- `DIGEST_LEN = 4`, the one number DOC0 fixes (R8). -/
def Config.digestLen : Nat := 4

end Sys2Proof
end

