-- ==== Sys2Proof/Syntax.lean ====
section
/-! DEFINITION. The syntax of ERC: the 36 commands of R59 (one constructor per row of spec/opcode_table.json), and
the columns of that table (format, use of `DIN`, mode). The data word `DIN` is not part of a command word: it comes
beside it on the command channel (R53) and stands in the state. -/

namespace Sys2Proof

/-- The commands of R59 in opcode order. `fd`, `fa`, `fb` are the registers named by `rd`, `rs1`, `rs2`; `n`, `i`,
`k`, `sel`, `q` stand in `idx` and are unsigned integers below 65536 (R56, `Instr.wf`). -/
inductive Instr where
  | nop
  | csrr (n : Nat)
  | fadd (fd fa fb : Reg)
  | fsub (fd fa fb : Reg)
  | fmul (fd fa fb : Reg)
  | fpow (fd fa : Reg)
  | finv (fd fa : Reg)
  | feq (fa fb : Reg)
  | flt (fa fb : Reg)
  | fldu (fd : Reg)
  | flds (fd : Reg)
  | fst (fa : Reg)
  | fmv (fd fa : Reg)
  | sget (fd : Reg) (i : Nat)
  | sput (fa : Reg) (i : Nat)
  | szero
  | sboxf
  | sboxi
  | mdsmul
  | arc (k : Nat)
  | pinit
  | pstep
  | perm
  | hinit
  | habs
  | hfin
  | hsqz (i : Nat)
  | habsr (fa : Reg)
  | pcfg (sel : Nat)
  | pmds
  | prck
  | pcommit
  | pclear
  | prdcfg (sel : Nat)
  | prdmds (q : Nat)
  | prdrc (q : Nat)
  deriving DecidableEq, Repr

/-- The nine formats of R55. -/
inductive Format where
  | Z | RRR | RR | RC | RD | RS | RDI | RSI | I
  deriving DecidableEq, Repr

/-- How a command reads `DIN` (R57, the column `DIN` of R59). -/
inductive DinUse where
  | ignored | unsigned | signed
  deriving DecidableEq, Repr

/-- The mode a command needs (R143, the column `mode` of R59). -/
inductive Need where
  | any | ready | unconf | unconfOrReady
  deriving DecidableEq, Repr

/-- One row of the opcode map R59. -/
structure Row where
  mnemonic : String
  op : Nat
  format : Format
  din : DinUse
  need : Need
  deriving DecidableEq, Repr

end Sys2Proof
end

