-- ==== Sys2Proof/WellFormed.lean ====
section
/-! DEFINITION. Which commands and data words can be presented: an index is a 16-bit unsigned integer (R56), a
register number is in range by its type, and a data word fits the `D` wires of `DIN` (R10, R53). -/

namespace Sys2Proof

/-- R56: `idx` is an unsigned integer `0 … 65535`. -/
def idxOk (n : Nat) : Bool := decide (n < 65536)

/-- A command whose every field fits its place in `CMD`. -/
def Instr.wf : Instr → Bool
  | .csrr n => idxOk n
  | .sget _ i => idxOk i
  | .sput _ i => idxOk i
  | .arc k => idxOk k
  | .hsqz i => idxOk i
  | .pcfg sel => idxOk sel
  | .prdcfg sel => idxOk sel
  | .prdmds q => idxOk q
  | .prdrc q => idxOk q
  | .nop | .fadd .. | .fsub .. | .fmul .. | .fpow .. | .finv .. | .feq .. | .flt .. | .fldu .. | .flds ..
  | .fst .. | .fmv .. | .szero | .sboxf | .sboxi | .mdsmul | .pinit | .pstep | .perm | .hinit | .habs | .hfin
  | .habsr .. | .pmds | .prck | .pcommit | .pclear => true

/-- R57: "An integer that does not fit in `D` bits cannot be presented at all". -/
def dinOk (b : Build) (d : Nat) : Bool := decide (d < 2 ^ b.dataBits)

end Sys2Proof
end

