-- ==== Sys2Proof/Decode.lean ====
section
/-! DEFINITION. The opcode map R59, the decoder R60 and the encoder, both from the layout R54 and the formats R55.
The decoder is total on 32-bit words: it answers one command or rejects the word by name. -/

namespace Sys2Proof

/-- `w[hi:lo]` (R12): "the unsigned integer made of bits `hi` down to `lo` of word `w`, inclusive". -/
def bits (w : CmdWord) (hi lo : Nat) : Nat := w.toNat / 2 ^ lo % 2 ^ (hi + 1 - lo)

/-- The 4-bit register number whose lowest bit is bit `lo` (R56). -/
def regAt (w : CmdWord) (lo : Nat) : Reg := Fin.ofNat 16 (bits w (lo + 3) lo)

/-- `idx = CMD[15:0]`, unsigned, never scaled (R56). -/
def idxAt (w : CmdWord) : Nat := bits w 15 0

/-- The row of R59 a command belongs to. -/
def Instr.row : Instr → Row
  | .nop => ⟨"NOP", 0x00, .Z, .ignored, .any⟩
  | .csrr .. => ⟨"CSRR", 0x01, .I, .ignored, .any⟩
  | .fadd .. => ⟨"FADD", 0x10, .RRR, .ignored, .ready⟩
  | .fsub .. => ⟨"FSUB", 0x11, .RRR, .ignored, .ready⟩
  | .fmul .. => ⟨"FMUL", 0x12, .RRR, .ignored, .ready⟩
  | .fpow .. => ⟨"FPOW", 0x13, .RR, .unsigned, .ready⟩
  | .finv .. => ⟨"FINV", 0x14, .RR, .ignored, .ready⟩
  | .feq .. => ⟨"FEQ", 0x15, .RC, .ignored, .ready⟩
  | .flt .. => ⟨"FLT", 0x16, .RC, .ignored, .ready⟩
  | .fldu .. => ⟨"FLDU", 0x18, .RD, .unsigned, .ready⟩
  | .flds .. => ⟨"FLDS", 0x19, .RD, .signed, .ready⟩
  | .fst .. => ⟨"FST", 0x1A, .RS, .ignored, .ready⟩
  | .fmv .. => ⟨"FMV", 0x1B, .RR, .ignored, .ready⟩
  | .sget .. => ⟨"SGET", 0x20, .RDI, .ignored, .ready⟩
  | .sput .. => ⟨"SPUT", 0x21, .RSI, .ignored, .ready⟩
  | .szero => ⟨"SZERO", 0x22, .Z, .ignored, .ready⟩
  | .sboxf => ⟨"SBOXF", 0x30, .Z, .ignored, .ready⟩
  | .sboxi => ⟨"SBOXI", 0x31, .Z, .ignored, .ready⟩
  | .mdsmul => ⟨"MDSMUL", 0x32, .Z, .ignored, .ready⟩
  | .arc .. => ⟨"ARC", 0x33, .I, .ignored, .ready⟩
  | .pinit => ⟨"PINIT", 0x38, .Z, .ignored, .ready⟩
  | .pstep => ⟨"PSTEP", 0x39, .Z, .ignored, .ready⟩
  | .perm => ⟨"PERM", 0x3A, .Z, .ignored, .ready⟩
  | .hinit => ⟨"HINIT", 0x40, .Z, .ignored, .ready⟩
  | .habs => ⟨"HABS", 0x41, .Z, .unsigned, .ready⟩
  | .hfin => ⟨"HFIN", 0x42, .Z, .ignored, .ready⟩
  | .hsqz .. => ⟨"HSQZ", 0x43, .I, .ignored, .ready⟩
  | .habsr .. => ⟨"HABSR", 0x44, .RS, .ignored, .ready⟩
  | .pcfg .. => ⟨"PCFG", 0x50, .I, .unsigned, .unconf⟩
  | .pmds => ⟨"PMDS", 0x51, .Z, .unsigned, .unconf⟩
  | .prck => ⟨"PRCK", 0x52, .Z, .unsigned, .unconf⟩
  | .pcommit => ⟨"PCOMMIT", 0x53, .Z, .ignored, .unconf⟩
  | .pclear => ⟨"PCLEAR", 0x54, .Z, .ignored, .unconf⟩
  | .prdcfg .. => ⟨"PRDCFG", 0x55, .I, .ignored, .unconfOrReady⟩
  | .prdmds .. => ⟨"PRDMDS", 0x56, .I, .ignored, .unconfOrReady⟩
  | .prdrc .. => ⟨"PRDRC", 0x57, .I, .ignored, .unconfOrReady⟩

/-- The 36 rows of R59, in opcode order. -/
def opcodeTable : List Row :=
  [Instr.row .nop, Instr.row (.csrr 0), Instr.row (.fadd 0 0 0), Instr.row (.fsub 0 0 0), Instr.row (.fmul 0 0 0),
   Instr.row (.fpow 0 0), Instr.row (.finv 0 0), Instr.row (.feq 0 0), Instr.row (.flt 0 0), Instr.row (.fldu 0),
   Instr.row (.flds 0), Instr.row (.fst 0), Instr.row (.fmv 0 0), Instr.row (.sget 0 0), Instr.row (.sput 0 0),
   Instr.row .szero, Instr.row .sboxf, Instr.row .sboxi, Instr.row .mdsmul, Instr.row (.arc 0), Instr.row .pinit,
   Instr.row .pstep, Instr.row .perm, Instr.row .hinit, Instr.row .habs, Instr.row .hfin, Instr.row (.hsqz 0),
   Instr.row (.habsr 0), Instr.row (.pcfg 0), Instr.row .pmds, Instr.row .prck, Instr.row .pcommit,
   Instr.row .pclear, Instr.row (.prdcfg 0), Instr.row (.prdmds 0), Instr.row (.prdrc 0)]

/-- The `mask` column of R55: "a 1 at every bit that is fixed". -/
def Format.mask : Format → CmdWord
  | .Z => 0xFFFFFFFF
  | .RRR => 0xFF000FFF
  | .RR => 0xFF00FFFF
  | .RC => 0xFFF00FFF
  | .RD => 0xFF0FFFFF
  | .RS => 0xFFF0FFFF
  | .RDI => 0xFF0F0000
  | .RSI => 0xFFF00000
  | .I => 0xFFFF0000

/-- The `must be zero` column of R55. -/
def Format.zerosOk : Format → CmdWord → Bool
  | .Z, w => bits w 23 0 == 0
  | .RRR, w => bits w 11 0 == 0
  | .RR, w => bits w 15 0 == 0
  | .RC, w => bits w 23 20 == 0 && bits w 11 0 == 0
  | .RD, w => bits w 19 0 == 0
  | .RS, w => bits w 23 20 == 0 && bits w 15 0 == 0
  | .RDI, w => bits w 19 16 == 0
  | .RSI, w => bits w 23 20 == 0
  | .I, w => bits w 23 16 == 0

/-- `match = op << 24` (R55). -/
def Row.matchWord (r : Row) : CmdWord := BitVec.ofNat 32 (r.op * 2 ^ 24)

/-- Why a word is not a command (R60, R131). -/
inductive DecodeError where
  /-- The opcode `CMD[31:24]` is not one of the 36 values of R59. Safe: the spec refuses the word. -/
  | unassigned (op : Nat)
  /-- A must-be-zero bit of the opcode's format is 1. Safe: the spec refuses the word. -/
  | mustBeZero (op : Nat)
  deriving DecidableEq, Repr

/-- The command an assigned opcode and the fields of a word name, before the must-be-zero bits are looked at; `none`
for the 220 opcodes that R61 reserves. -/
def select (w : CmdWord) : Option Instr :=
  match bits w 31 24 with
  | 0x00 => some .nop
  | 0x01 => some (.csrr (idxAt w))
  | 0x10 => some (.fadd (regAt w 20) (regAt w 16) (regAt w 12))
  | 0x11 => some (.fsub (regAt w 20) (regAt w 16) (regAt w 12))
  | 0x12 => some (.fmul (regAt w 20) (regAt w 16) (regAt w 12))
  | 0x13 => some (.fpow (regAt w 20) (regAt w 16))
  | 0x14 => some (.finv (regAt w 20) (regAt w 16))
  | 0x15 => some (.feq (regAt w 16) (regAt w 12))
  | 0x16 => some (.flt (regAt w 16) (regAt w 12))
  | 0x18 => some (.fldu (regAt w 20))
  | 0x19 => some (.flds (regAt w 20))
  | 0x1A => some (.fst (regAt w 16))
  | 0x1B => some (.fmv (regAt w 20) (regAt w 16))
  | 0x20 => some (.sget (regAt w 20) (idxAt w))
  | 0x21 => some (.sput (regAt w 16) (idxAt w))
  | 0x22 => some .szero
  | 0x30 => some .sboxf
  | 0x31 => some .sboxi
  | 0x32 => some .mdsmul
  | 0x33 => some (.arc (idxAt w))
  | 0x38 => some .pinit
  | 0x39 => some .pstep
  | 0x3A => some .perm
  | 0x40 => some .hinit
  | 0x41 => some .habs
  | 0x42 => some .hfin
  | 0x43 => some (.hsqz (idxAt w))
  | 0x44 => some (.habsr (regAt w 16))
  | 0x50 => some (.pcfg (idxAt w))
  | 0x51 => some .pmds
  | 0x52 => some .prck
  | 0x53 => some .pcommit
  | 0x54 => some .pclear
  | 0x55 => some (.prdcfg (idxAt w))
  | 0x56 => some (.prdmds (idxAt w))
  | 0x57 => some (.prdrc (idxAt w))
  | _ => none

/-- R60: the opcode must be assigned, and every must-be-zero bit of its format must be 0. -/
def decode (w : CmdWord) : Except DecodeError Instr :=
  match select w with
  | none => .error (.unassigned (bits w 31 24))
  | some i => if i.row.format.zerosOk w then .ok i else .error (.mustBeZero (bits w 31 24))

/-- The layout R54: `op` in 31:24, `rd` in 23:20, `rs1` in 19:16 and the low 16 bits (`rs2 ∥ z`, or `idx`). -/
def pack (op rd rs1 low : Nat) : CmdWord := BitVec.ofNat 32 (op * 2 ^ 24 + rd * 2 ^ 20 + rs1 * 2 ^ 16 + low)

/-- The command word of a well-formed command; every bit its format does not use is 0 (R54, R55). -/
def encode : Instr → CmdWord
  | .nop => pack 0x00 0 0 0
  | .csrr n => pack 0x01 0 0 n
  | .fadd fd fa fb => pack 0x10 fd fa (fb * 2 ^ 12)
  | .fsub fd fa fb => pack 0x11 fd fa (fb * 2 ^ 12)
  | .fmul fd fa fb => pack 0x12 fd fa (fb * 2 ^ 12)
  | .fpow fd fa => pack 0x13 fd fa 0
  | .finv fd fa => pack 0x14 fd fa 0
  | .feq fa fb => pack 0x15 0 fa (fb * 2 ^ 12)
  | .flt fa fb => pack 0x16 0 fa (fb * 2 ^ 12)
  | .fldu fd => pack 0x18 fd 0 0
  | .flds fd => pack 0x19 fd 0 0
  | .fst fa => pack 0x1A 0 fa 0
  | .fmv fd fa => pack 0x1B fd fa 0
  | .sget fd i => pack 0x20 fd 0 i
  | .sput fa i => pack 0x21 0 fa i
  | .szero => pack 0x22 0 0 0
  | .sboxf => pack 0x30 0 0 0
  | .sboxi => pack 0x31 0 0 0
  | .mdsmul => pack 0x32 0 0 0
  | .arc k => pack 0x33 0 0 k
  | .pinit => pack 0x38 0 0 0
  | .pstep => pack 0x39 0 0 0
  | .perm => pack 0x3A 0 0 0
  | .hinit => pack 0x40 0 0 0
  | .habs => pack 0x41 0 0 0
  | .hfin => pack 0x42 0 0 0
  | .hsqz i => pack 0x43 0 0 i
  | .habsr fa => pack 0x44 0 fa 0
  | .pcfg sel => pack 0x50 0 0 sel
  | .pmds => pack 0x51 0 0 0
  | .prck => pack 0x52 0 0 0
  | .pcommit => pack 0x53 0 0 0
  | .pclear => pack 0x54 0 0 0
  | .prdcfg sel => pack 0x55 0 0 sel
  | .prdmds q => pack 0x56 0 0 q
  | .prdrc q => pack 0x57 0 0 q

/-- The command the decoder reads from a table word: `w` cut to `nbits` bits (every bit above is 0), as one 32-bit
command word. ERC has no byte order (R41), so nothing is laid out in bytes. -/
def decodeTableWord (nbits w : Nat) : Option Instr :=
  if w % 2 ^ nbits < 2 ^ 32 then
    match decode (BitVec.ofNat 32 (w % 2 ^ nbits)) with
    | .ok i => some i
    | .error _ => none
  else none

end Sys2Proof
end

