-- ==== Sys2Proof/Machine/State.lean ====
section
/-! DEFINITION. The state of one ERC core (R36, the whole of it), the channel between host and core that a run needs
(R53, R17), the reasons a step can stop, and the state after reset (R152). ERC has no byte-addressed memory (R37): the
tables, vectors and registers below are its whole storage. -/

namespace Sys2Proof.Machine

/-- `MODE` (R29). -/
inductive Mode where
  | unconf | ready | fatal
  deriving DecidableEq, Repr

/-- The status codes of R130; codes 11 to 15 do not exist. -/
inductive Status where
  | ok | illegal | fatal | noparam | locked | seq | index | invop | input | param | internal
  deriving DecidableEq, Repr

/-- One response (R53): a status and the integer on `DOUT` (R58). -/
structure Response where
  status : Status
  dout : Nat
  deriving DecidableEq, Repr

/-- What the host can do to the core (R15): "it can only issue commands and assert reset". -/
inductive HostInput where
  /-- One transfer on the command channel: `CMD` and `DIN` (R53). -/
  | command (cmd : CmdWord) (din : Nat)
  /-- Reset asserted while the core is idle (R152). -/
  | reset
  /-- Reset asserted while the core executes this command (R152, U7). -/
  | resetDuring (cmd : CmdWord) (din : Nat)
  deriving DecidableEq, Repr

/-- One core. The fields down to `dvalid` are the spec's state, R36; `build` is R10's argument of the model; `din`,
`inputs` and `responses` are the model's own: the data word beside the command being executed and the two channels. -/
structure State where
  /-- The build's implementation parameters (R10): no step changes them (log entry 1). -/
  build : Build
  /-- `MODE` (R29). -/
  mode : Mode
  /-- `FCAUSE` (R29): the status code that caused `FATAL`, else 0. -/
  fcause : StatusCode
  /-- `P`, configuration register 0 (R30): the modulus. -/
  p : Nat
  /-- `M`, configuration register 1 (R30): the state width. -/
  m : Nat
  /-- `N`, configuration register 2 (R30): the number of rounds. -/
  n : Nat
  /-- `ALPHA`, configuration register 3 (R30): the forward exponent. -/
  alpha : Nat
  /-- `AINV`, configuration register 4 (R30): the inverse exponent. -/
  ainv : Nat
  /-- `RATE`, configuration register 5 (R30): the absorb block width. -/
  rate : Nat
  /-- `MDSBUF` (R31): the entries that have a value, entry 0 first. -/
  mdsBuf : List Nat
  /-- `RCBUF` (R31): the entries that have a value, entry 0 first. -/
  rcBuf : List Nat
  /-- `MDSCNT` (R31), `MDS_CAP + 1` at its overflow mark. -/
  mdsCnt : Nat
  /-- `RCCNT` (R31), `RC_CAP + 1` at its overflow mark. -/
  rcCnt : Nat
  /-- `f[0 … 15]` (R23). -/
  f : Vector Elem 16
  /-- `S[0 … M_MAX − 1]` (R24). -/
  sv : List Elem
  /-- `HRC`, the half-round counter (R27). -/
  hrc : Nat
  /-- `HOPEN` (R28). -/
  hopen : Bool
  /-- `HANY` (R28). -/
  hany : Bool
  /-- `ABSPOS` (R28). -/
  abspos : Nat
  /-- `DG[0 … 3]` (R25): always a number, because its content is "any value" while `DVALID = 0` (U13, log entry 15). -/
  dg : Vector Nat 4
  /-- `DVALID` (R25). -/
  dvalid : Bool
  /-- MODEL'S OWN: the integer on the `D` wires of `DIN` beside the command being executed (R14). -/
  din : Nat
  /-- MODEL'S OWN: what the host still has to present, next first (R17). -/
  inputs : List HostInput
  /-- MODEL'S OWN: the responses given so far, oldest first; R17's observation. -/
  responses : List Response
  deriving DecidableEq, Repr

/-- The committed parameter set as the arithmetic rules see it (R7, R31). -/
structure Params where
  p : Nat
  m : Nat
  n : Nat
  alpha : Nat
  ainv : Nat
  rate : Nat
  mds : List Nat
  rc : List Nat
  deriving DecidableEq, Repr

/-- The model faults of the spec. -/
inductive Fault where
  /-- `UninitRead` (R21, R141, U1, D35): raised by `orUninit` of Machine/Ops.lean alone, when a rule reads a scalar
  register or an element of `S` that holds no value. The spec orders the stop ("the model must stop with a fault and must
  not invent a value") and calls what the hardware returns unspecified (U1). Safe: the model stops where the chip goes on
  with a value no source gives. -/
  | uninitRead
  deriving DecidableEq, Repr

/-- The refusals. No command of ERC needs one of its own: a word that is no command is answered `E_ILLEGAL` (R131). -/
inductive Refusal where
  /-- An instruction of the opcode table without a meaning, by its mnemonic; raised only by an arm of `exec`. Safe: the
  model says nothing about the instruction. No arm raises it now. -/
  | notModelled (mnemonic : String)
  deriving DecidableEq, Repr

/-- The state after reset of a core built as `b` (R36, R152): mode `UNCONF`, every counter, bit and configuration
register 0, every table empty, every scalar register and element of `S` *no value*. `DG` is 0, DESIGN CHOICE (log entry 15). The model's own channel fields are empty. -/
def State.resetOf (b : Build) : State where
  build := b
  mode := .unconf
  fcause := 0
  p := 0
  m := 0
  n := 0
  alpha := 0
  ainv := 0
  rate := 0
  mdsBuf := []
  rcBuf := []
  mdsCnt := 0
  rcCnt := 0
  f := Vector.replicate 16 none
  sv := List.replicate b.mMax none
  hrc := 0
  hopen := false
  hany := false
  abspos := 0
  dg := Vector.replicate 4 0
  dvalid := false
  din := 0
  inputs := []
  responses := []

/-- The machine right after reset (R152), for the build `Config.build`. -/
def State.reset : State := State.resetOf Config.build

end Sys2Proof.Machine
end

