-- ==== Sys2Proof/Machine/Operands.lean ====
section
/-! DEFINITION. The operand forms: the two readings of `DIN` (R12, R57), the index spaces of R38 and what an index
outside one of them means (`none`). There is one addressing mode: the index is used as it is. -/

namespace Sys2Proof.Machine

/-- `uint(DIN)` (R12, R57): the `D`-bit word on `DIN` as an unsigned integer. -/
def uint (b : Build) (din : Nat) : Nat := (BitVec.ofNat b.dataBits din).toNat

/-- `sint(DIN)` (R12, R57): the `D`-bit word on `DIN` as two's complement. -/
def sint (b : Build) (din : Nat) : Int := (BitVec.ofNat b.dataBits din).toInt

/-- `uint(DIN)` of the command being executed. -/
def State.udin (s : State) : Nat := uint s.build s.din

/-- `sint(DIN)` of the command being executed. -/
def State.sdin (s : State) : Int := sint s.build s.din

/-- The location `S[i]` (R24); a location that does not exist holds no value. -/
def State.sAt (s : State) (i : Nat) : Elem := s.sv.getD i none

/-- The digest element `DG[i]` (R25); the 0 for `i ≥ 4` is never used (R121). -/
def State.dgAt (s : State) (i : Nat) : Nat := s.dg.toList.getD i 0

/-- `CFG[sel]` (R38, R87): `P, M, N, ALPHA, AINV, RATE` for 0 to 5; `none` outside the space. -/
def State.cfgAt (s : State) : Nat → Option Nat
  | 0 => some s.p
  | 1 => some s.m
  | 2 => some s.n
  | 3 => some s.alpha
  | 4 => some s.ainv
  | 5 => some s.rate
  | _ => none

/-- An entry of a parameter table. `MDSBUF` and `RCBUF` entries below the fill counter and the capacity have a value
(R31); the 0 for another one is never used in a state a run reaches (log entry 5). -/
def tableAt (buf : List Nat) (q : Nat) : Nat := buf.getD q 0

/-- The contents of a list of locations, all of them or none (the reads of R141). -/
def values : List Elem → Option (List Nat)
  | [] => some []
  | none :: _ => none
  | some v :: rest => (values rest).map (v :: ·)

/-- `read(S[0]) … read(S[M − 1])`; `none` when one of them holds no value. -/
def State.readVec (s : State) : Option (List Nat) := values ((List.range s.m).map s.sAt)

/-- The view of the parameter store the arithmetic rules use (R31). -/
def State.params (s : State) : Params where
  p := s.p
  m := s.m
  n := s.n
  alpha := s.alpha
  ainv := s.ainv
  rate := s.rate
  mds := s.mdsBuf
  rc := s.rcBuf

end Sys2Proof.Machine
end

