-- ==== Sys2Proof/Machine/Arith.lean ====
section
/-! DEFINITION. The prime-field arithmetic of FAU as functions on integers (R64 to R69) and the layers of the
permutation as functions on the vector of state elements (R96 to R100), with the hash as a function (R113). Every one is
integer arithmetic followed by `mod P`; none wraps at a power of two (R11). -/

namespace Sys2Proof.Machine

/-- Construction `fe(v) = v mod P` for any integer `v` (R64), the Euclidean residue of R13. -/
def fe (p : Nat) (v : Int) : Nat := (v % (p : Int)).toNat

/-- R65. -/
def add (p a b : Nat) : Nat := (a + b) % p

/-- R66: `(a − b) mod P`, Euclidean. -/
def sub (p a b : Nat) : Nat := fe p ((a : Int) - (b : Int))

/-- R67. -/
def mul (p a b : Nat) : Nat := a * b % p

/-- The square-and-multiply loop of R68; `fuel` bounds the rounds, `b` is the running square, `r` the result so far. -/
def powLoop (p : Nat) : Nat → Nat → Nat → Nat → Nat
  | 0, _, _, r => r
  | fuel + 1, b, e, r =>
    if e = 0 then r
    else powLoop p fuel (mul p b b) (e / 2) (if e % 2 = 1 then mul p r b else r)

/-- `pow(x, e)` (R68). The loop ends after as many rounds as `e` has bits. -/
def pow (p x e : Nat) : Nat := powLoop p (e.log2 + 1) x e (1 % p)

/-- `inv(a) = pow(a, P − 2)` (R69); the caller rejects `a = 0`. -/
def inv (p a : Nat) : Nat := pow p a (p - 2)

/-- `MDS[i][j] = MDSBUF[i·M + j]` (R31, R39). -/
def Params.mdsAt (ps : Params) (i j : Nat) : Nat := tableAt ps.mds (i * ps.m + j)

/-- `RC[k][j] = RCBUF[k·M + j]` (R31, R39). -/
def Params.rcAt (ps : Params) (k j : Nat) : Nat := tableAt ps.rc (k * ps.m + j)

/-- `sbox(e)` (R96), element-wise. -/
def sbox (ps : Params) (e : Nat) (t : List Nat) : List Nat := t.map fun x => pow ps.p x e

/-- `mdsmul()` (R97): row `i` of the matrix times the old state, an integer sum reduced once. -/
def mdsMul (ps : Params) (t : List Nat) : List Nat :=
  (List.range ps.m).map fun i => ((List.range ps.m).map fun j => ps.mdsAt i j * t.getD j 0).sum % ps.p

/-- `addrc(k)` (R98). -/
def addRc (ps : Params) (k : Nat) (t : List Nat) : List Nat :=
  t.mapIdx fun j x => add ps.p x (ps.rcAt k j)

/-- The exponent of half-round `h` (R99): `ALPHA` when `h` is even, `AINV` when it is odd. -/
def Params.exponent (ps : Params) (h : Nat) : Nat := if h % 2 = 0 then ps.alpha else ps.ainv

/-- `halfround(h)` (R99): S-box, then matrix, then constants. -/
def halfRound (ps : Params) (t : List Nat) (h : Nat) : List Nat :=
  addRc ps h (mdsMul ps (sbox ps (ps.exponent h) t))

/-- `permute()` (R100): the half-rounds 0 to `2·N − 1` in order. -/
def permute (ps : Params) (t : List Nat) : List Nat := (List.range (2 * ps.n)).foldl (halfRound ps) t

/-- Step 3 of R113 for one block: the block's elements are added into the first `RATE` positions, zeros where the input
has ended. -/
def absorbBlock (ps : Params) (xs : List Nat) (t : List Nat) (blk : Nat) : List Nat :=
  t.mapIdx fun j x =>
    if j < ps.rate then
      add ps.p x (if blk * ps.rate + j < xs.length then fe ps.p (xs.getD (blk * ps.rate + j) 0) else 0)
    else x

/-- `rescue_hash(x)` (R113) as a function of the committed parameter set and the input list, `n ≥ 1`. -/
def rescueHash (ps : Params) (xs : List Nat) : List Nat :=
  let blocks := (xs.length + ps.rate - 1) / ps.rate
  ((List.range blocks).foldl (fun t blk => permute ps (absorbBlock ps xs t blk)) (List.replicate ps.m 0)).take
    Config.digestLen

end Sys2Proof.Machine
end

