-- ==== Sys2Proof/Machine/Flags.lean ====
section
/-! DEFINITION. ERC has no flags and no condition codes (R34). What stands in their place: the codes of the statuses and
modes (R29, R130), the `STATUS` word (R33), the status registers read by `CSRR` (R32), and the truth values that `FEQ`
and `FLT` answer on `DOUT` (R70). -/

namespace Sys2Proof.Machine

/-- The number of a mode (R29). -/
def Mode.code : Mode → Nat
  | .unconf => 0
  | .ready => 1
  | .fatal => 2

/-- The number of a status (R130). -/
def Status.code : Status → StatusCode
  | .ok => 0
  | .illegal => 1
  | .fatal => 2
  | .noparam => 3
  | .locked => 4
  | .seq => 5
  | .index => 6
  | .invop => 7
  | .input => 8
  | .param => 9
  | .internal => 10

/-- R129: "Two codes are fatal: `E_PARAM` and `E_INTERNAL`." -/
def Status.isFatal : Status → Bool
  | .param | .internal => true
  | .ok | .illegal | .fatal | .noparam | .locked | .seq | .index | .invop | .input => false

/-- The `STATUS` word (R33, R126): `MODE + 4·HOPEN + 8·HANY + 16·DVALID + 256·FCAUSE`. -/
def State.statusWord (s : State) : Nat :=
  s.mode.code + 4 * s.hopen.toNat + 8 * s.hany.toNat + 16 * s.dvalid.toNat + 256 * s.fcause.toNat

/-- The status registers of R32; `none` for the numbers 8 to 65535, which name no register. -/
def State.csrAt (s : State) : Nat → Option Nat
  | 0 => some s.statusWord
  | 1 => some s.hrc
  | 2 => some s.abspos
  | 3 => some s.mdsCnt
  | 4 => some s.rcCnt
  | 5 => some s.build.mMax
  | 6 => some s.build.nMax
  | 7 => some s.build.dataBits
  | _ => none

/-- `eq(a, b)` of R70: 1 when the representatives are the same integer, else 0. -/
def feqValue (a b : Nat) : Nat := if a = b then 1 else 0

/-- `lt(a, b)` of R70: 1 when `a < b` as integers, else 0. -/
def fltValue (a b : Nat) : Nat := if a < b then 1 else 0

end Sys2Proof.Machine
end

