-- ==== Sys2Proof/Machine/Ops.lean ====
section
/-! DEFINITION. The shared operations: the writes of each piece of state, the response, the raising of an error (ERC's
whole exception mechanism, R127), the mode check that precedes every command's own rule (R143, R144), the reads that can
be `UninitRead` (R141), and the permutation and absorption acting on the state (R100, R117). -/

namespace Sys2Proof.Machine

/-- The answer of a meaning. -/
abbrev Result := Host.Outcome State Fault Refusal

/-! ### Writes, one per piece of state -/

/-- `f[r] <- v` (R14, R23). -/
def State.setReg (s : State) (r : Reg) (v : Nat) : State := { s with f := s.f.set r (some v) }

/-- `S[i] <- v` (R14, R24). -/
def State.setElem (s : State) (i v : Nat) : State := { s with sv := s.sv.set i (some v) }

/-- `S[0 … M − 1] <- t`; the elements above are not written (R103, U12). -/
def State.setVec (s : State) (t : List Nat) : State := { s with sv := t.map some ++ s.sv.drop t.length }

/-- `HRC <- h` (R27). -/
def State.setHrc (s : State) (h : Nat) : State := { s with hrc := h }

/-- `ABSPOS <- k` (R28). -/
def State.setAbspos (s : State) (k : Nat) : State := { s with abspos := k }

/-- `HANY <- b` (R28). -/
def State.setHany (s : State) (b : Bool) : State := { s with hany := b }

/-- `HOPEN <- b` (R28). -/
def State.setHopen (s : State) (b : Bool) : State := { s with hopen := b }

/-- `DVALID <- b` (R25). -/
def State.setDvalid (s : State) (b : Bool) : State := { s with dvalid := b }

/-- `DG[0 … 3] <- a, b, c, d` (R25). -/
def State.setDigest (s : State) (a b c d : Nat) : State := { s with dg := #v[a, b, c, d] }

/-- `CFG[sel] <- v` (R87); `none` outside the space of R38. -/
def State.setCfg (s : State) (sel v : Nat) : Option State :=
  match sel with
  | 0 => some { s with p := v }
  | 1 => some { s with m := v }
  | 2 => some { s with n := v }
  | 3 => some { s with alpha := v }
  | 4 => some { s with ainv := v }
  | 5 => some { s with rate := v }
  | _ => none

/-- `MDSBUF` and its fill counter (R31). -/
def State.setMds (s : State) (buf : List Nat) (cnt : Nat) : State := { s with mdsBuf := buf, mdsCnt := cnt }

/-- `RCBUF` and its fill counter (R31). -/
def State.setRc (s : State) (buf : List Nat) (cnt : Nat) : State := { s with rcBuf := buf, rcCnt := cnt }

/-- `MODE <- m` (R29). -/
def State.setMode (s : State) (m : Mode) : State := { s with mode := m }

/-! ### The response, and the raising of an error -/

/-- `respond(code, v)` (R14): the command ends with this status and `DOUT = zext_D(v)`. -/
def State.respond (s : State) (st : Status) (v : Nat) : State :=
  { s with responses := s.responses ++ [{ status := st, dout := v }] }

/-- What raising `e` does to the mode (R127, R129): a fatal code moves to `FATAL` and is recorded in `FCAUSE`; any other
changes nothing. There is no trap vector, no saved state and no return (R127, R128). -/
def State.enterError (s : State) (e : Status) : State :=
  if e.isFatal then { s with mode := .fatal, fcause := e.code } else s

/-- Taking an exception (R14 `raise`, R127, R129): the error's effect on the mode, then the response with the code and
`DOUT = 0`. The next command executes as if the failing one had been a `NOP` (R128). -/
def State.raise (s : State) (e : Status) : State := (s.enterError e).respond e 0

/-- `respond(OK, v)` as the end of a command. -/
def done (s : State) (v : Nat) : Result := .next (s.respond .ok v)

/-- `raise E_X` as the end of a command. -/
def fail (s : State) (e : Status) : Result := .next (s.raise e)

/-! ### The checks before a command's own rule -/

/-- R143, R144 lines 2 and 3: the error of a command whose mode requirement is not met, if it is not met. -/
def modeError : Need → Mode → Option Status
  | .any, _ => none
  | _, .fatal => some .fatal
  | .ready, .unconf => some .noparam
  | .ready, .ready => none
  | .unconf, .unconf => none
  | .unconf, .ready => some .locked
  | .unconfOrReady, .unconf => none
  | .unconfOrReady, .ready => none

/-- A command's own rule, run on the state after the mode check (R144), which changes nothing. -/
def inMode (need : Need) (s : State) (rule : State → Result) : Result :=
  match modeError need s.mode with
  | some e => fail s e
  | none => rule s

/-! ### Reads that can be `UninitRead` (R21, R141) -/

/-- `read(X)` (R14): a rule goes on with what `X` holds, and *no value* is the model fault of R141, raised here and nowhere
else. R141: "the model must stop with a fault and must not invent a value"; U1 gives the case the treatment `fault`. -/
def orUninit {α : Type} (content : Option α) (rule : α → Result) : Result :=
  match content with
  | some v => rule v
  | none => .fault .uninitRead

/-- `read(f[r])`. -/
def readReg (s : State) (r : Reg) (rule : Nat → Result) : Result := orUninit s.f[r] rule

/-- `read(S[i])`. -/
def readElem (s : State) (i : Nat) (rule : Nat → Result) : Result := orUninit (s.sAt i) rule

/-! ### The layers, the permutation and the absorption on the state -/

/-- A layer on the state vector: read all of `S[0 … M − 1]`, write all of it (R43, the `simultaneously` of R96 to R98). -/
def State.mapVec (s : State) (layer : List Nat → List Nat) : Option State :=
  s.readVec.map fun t => s.setVec (layer t)

/-- `permute()` on the state (R100): the vector permuted, `HRC = 2·N`. -/
def State.permuted (s : State) : Option State :=
  (s.mapVec (permute s.params)).map fun s' => s'.setHrc (2 * s.n)

/-- `absorb(v)` (R117), which requires an open call. `ABSPOS = RATE − 1` is written `ABSPOS + 1 = RATE`, the same for
`RATE ≥ 1`. -/
def State.absorb (s : State) (v : Nat) : Option State :=
  match s.sAt s.abspos with
  | none => none
  | some x =>
    let s1 := (s.setElem s.abspos (add s.p x v)).setHany true
    if s.abspos + 1 = s.rate then s1.permuted.map fun s2 => s2.setAbspos 0
    else some (s1.setAbspos (s.abspos + 1))

end Sys2Proof.Machine
end

