-- ==== Sys2Proof/Machine/FieldArith.lean ====
section
/-! DEFINITION. The eleven commands of FAU (40_field_arithmetic.md section 2). Each needs mode `READY`; each reads its
sources before it writes its destination (R22). -/

namespace Sys2Proof.Machine

/-- `FLDU fd, #v` (R73). -/
def execFldu (fd : Reg) (s : State) : Result :=
  inMode .ready s fun s => done (s.setReg fd (fe s.p s.udin)) 0

/-- `FLDS fd, #v` (R74). -/
def execFlds (fd : Reg) (s : State) : Result :=
  inMode .ready s fun s => done (s.setReg fd (fe s.p s.sdin)) 0

/-- `FST fa` (R75). -/
def execFst (fa : Reg) (s : State) : Result :=
  inMode .ready s fun s => readReg s fa fun v => done s v

/-- `FMV fd, fa` (R76). -/
def execFmv (fd fa : Reg) (s : State) : Result :=
  inMode .ready s fun s => readReg s fa fun v => done (s.setReg fd v) 0

/-- `FADD fd, fa, fb` (R77). -/
def execFadd (fd fa fb : Reg) (s : State) : Result :=
  inMode .ready s fun s => readReg s fa fun a => readReg s fb fun b => done (s.setReg fd (add s.p a b)) 0

/-- `FSUB fd, fa, fb` (R78). -/
def execFsub (fd fa fb : Reg) (s : State) : Result :=
  inMode .ready s fun s => readReg s fa fun a => readReg s fb fun b => done (s.setReg fd (sub s.p a b)) 0

/-- `FMUL fd, fa, fb` (R79). -/
def execFmul (fd fa fb : Reg) (s : State) : Result :=
  inMode .ready s fun s => readReg s fa fun a => readReg s fb fun b => done (s.setReg fd (mul s.p a b)) 0

/-- `FPOW fd, fa, #e` (R80). -/
def execFpow (fd fa : Reg) (s : State) : Result :=
  inMode .ready s fun s => readReg s fa fun x => done (s.setReg fd (pow s.p x s.udin)) 0

/-- `FINV fd, fa` (R81): a zero source is `E_INVOP`, with no register written. -/
def execFinv (fd fa : Reg) (s : State) : Result :=
  inMode .ready s fun s => readReg s fa fun a =>
    if a = 0 then fail s .invop else done (s.setReg fd (inv s.p a)) 0

/-- `FEQ fa, fb` (R82). -/
def execFeq (fa fb : Reg) (s : State) : Result :=
  inMode .ready s fun s => readReg s fa fun a => readReg s fb fun b => done s (feqValue a b)

/-- `FLT fa, fb` (R83). -/
def execFlt (fa fb : Reg) (s : State) : Result :=
  inMode .ready s fun s => readReg s fa fun a => readReg s fb fun b => done s (fltValue a b)

end Sys2Proof.Machine
end

