-- ==== Sys2Proof/Machine/ParamStore.lean ====
section
/-! DEFINITION. The eight commands of the parameter store (41_parameter_store.md). -/

namespace Sys2Proof.Machine

/-- `PCFG s, #v` (R87). -/
def execPcfg (sel : Nat) (s : State) : Result :=
  inMode .unconf s fun s =>
    match s.setCfg sel s.udin with
    | some s' => done s' 0
    | none => fail s .index

/-- `PMDS #v` (R88); an append to a full table answers `E_INDEX` and leaves the overflow mark `MDS_CAP + 1`. -/
def execPmds (s : State) : Result :=
  inMode .unconf s fun s =>
    if s.mdsCnt < s.build.mdsCap then done (s.setMds (s.mdsBuf ++ [s.udin]) (s.mdsCnt + 1)) 0
    else fail (s.setMds s.mdsBuf (s.build.mdsCap + 1)) .index

/-- `PRCK #v` (R89); an append to a full table answers `E_INDEX` and leaves the overflow mark `RC_CAP + 1`. -/
def execPrck (s : State) : Result :=
  inMode .unconf s fun s =>
    if s.rcCnt < s.build.rcCap then done (s.setRc (s.rcBuf ++ [s.udin]) (s.rcCnt + 1)) 0
    else fail (s.setRc s.rcBuf (s.build.rcCap + 1)) .index

/-- The checks (a) to (g) of R90; the products are compared as unbounded integers. -/
def State.paramsOk (s : State) : Bool :=
  decide (2 ≤ s.p)
    && (decide (4 ≤ s.m) && decide (s.m ≤ s.build.mMax))
    && (decide (1 ≤ s.n) && decide (s.n ≤ s.build.nMax))
    && (decide (1 ≤ s.rate) && decide (s.rate ≤ s.m))
    && decide (s.mdsCnt = s.m * s.m)
    && decide (s.rcCnt = 2 * s.n * s.m)
    && (decide (1 ≤ s.alpha) && decide (1 ≤ s.ainv))

/-- The successful end of `PCOMMIT` (R90): both tables reduced modulo `P`, mode `READY`. -/
def State.committed (s : State) : State :=
  ((s.setMds (s.mdsBuf.map (· % s.p)) s.mdsCnt).setRc (s.rcBuf.map (· % s.p)) s.rcCnt).setMode .ready

/-- `PCOMMIT` (R90). -/
def execPcommit (s : State) : Result :=
  inMode .unconf s fun s => if s.paramsOk then done s.committed 0 else fail s .param

/-- An empty parameter store (R91). -/
def State.cleared (s : State) : State :=
  ({ s with p := 0, m := 0, n := 0, alpha := 0, ainv := 0, rate := 0 }.setMds [] 0).setRc [] 0

/-- `PCLEAR` (R91). -/
def execPclear (s : State) : Result :=
  inMode .unconf s fun s => done s.cleared 0

/-- `PRDCFG s` (R92). -/
def execPrdcfg (sel : Nat) (s : State) : Result :=
  inMode .unconfOrReady s fun s =>
    match s.cfgAt sel with
    | some v => done s v
    | none => fail s .index

/-- `PRDMDS q` (R93). -/
def execPrdmds (q : Nat) (s : State) : Result :=
  inMode .unconfOrReady s fun s =>
    if s.mdsCnt ≤ q ∨ s.build.mdsCap ≤ q then fail s .index else done s (tableAt s.mdsBuf q)

/-- `PRDRC q` (R94). -/
def execPrdrc (q : Nat) (s : State) : Result :=
  inMode .unconfOrReady s fun s =>
    if s.rcCnt ≤ q ∨ s.build.rcCap ≤ q then fail s .index else done s (tableAt s.rcBuf q)

end Sys2Proof.Machine
end

