-- ==== Sys2Proof/Machine/Permutation.lean ====
section
/-! DEFINITION. The ten commands of state access, SBX, MDX and PRC (42_permutation.md). Each needs mode `READY`. -/

namespace Sys2Proof.Machine

/-- `SGET fd, i` (R101). -/
def execSget (fd : Reg) (i : Nat) (s : State) : Result :=
  inMode .ready s fun s =>
    if s.m ≤ i then fail s .index else readElem s i fun v => done (s.setReg fd v) 0

/-- `SPUT fa, i` (R102). -/
def execSput (fa : Reg) (i : Nat) (s : State) : Result :=
  inMode .ready s fun s =>
    if s.m ≤ i then fail s .index else readReg s fa fun v => done (s.setElem i v) 0

/-- `SZERO` (R103). -/
def execSzero (s : State) : Result :=
  inMode .ready s fun s => done (s.setVec (List.replicate s.m 0)) 0

/-- `SBOXF` (R104). -/
def execSboxf (s : State) : Result :=
  inMode .ready s fun s => orUninit (s.mapVec (sbox s.params s.alpha)) fun s' => done s' 0

/-- `SBOXI` (R105). -/
def execSboxi (s : State) : Result :=
  inMode .ready s fun s => orUninit (s.mapVec (sbox s.params s.ainv)) fun s' => done s' 0

/-- `MDSMUL` (R106). -/
def execMdsmul (s : State) : Result :=
  inMode .ready s fun s => orUninit (s.mapVec (mdsMul s.params)) fun s' => done s' 0

/-- `ARC k` (R107). -/
def execArc (k : Nat) (s : State) : Result :=
  inMode .ready s fun s =>
    if 2 * s.n ≤ k then fail s .index
    else orUninit (s.mapVec (addRc s.params k)) fun s' => done s' 0

/-- `PINIT` (R109). -/
def execPinit (s : State) : Result :=
  inMode .ready s fun s => done (s.setHrc 0) 0

/-- `PSTEP` (R110). -/
def execPstep (s : State) : Result :=
  inMode .ready s fun s =>
    if 2 * s.n ≤ s.hrc then fail s .seq
    else orUninit (s.mapVec fun t => halfRound s.params t s.hrc) fun s' => done (s'.setHrc (s.hrc + 1)) 0

/-- `PERM` (R111): every read comes before any write. -/
def execPerm (s : State) : Result :=
  inMode .ready s fun s => orUninit s.permuted fun s' => done s' 0

end Sys2Proof.Machine
end

