-- ==== Sys2Proof/Machine/Sponge.lean ====
section
/-! DEFINITION. The five commands of the sponge driver SPG (43_sponge_hash.md). Each needs mode `READY`. -/

namespace Sys2Proof.Machine

/-- `HINIT` (R116). -/
def execHinit (s : State) : Result :=
  inMode .ready s fun s =>
    done (((((s.setVec (List.replicate s.m 0)).setAbspos 0).setHany false).setHopen true).setDvalid false) 0

/-- `HABS #v` (R118). -/
def execHabs (s : State) : Result :=
  inMode .ready s fun s =>
    if s.hopen = false then fail s .seq
    else orUninit (s.absorb (fe s.p s.udin)) fun s' => done s' 0

/-- `HABSR fa` (R119). -/
def execHabsr (fa : Reg) (s : State) : Result :=
  inMode .ready s fun s =>
    if s.hopen = false then fail s .seq
    else readReg s fa fun v => orUninit (s.absorb v) fun s' => done s' 0

/-- The padding of R120: an incomplete last block is permuted, zero elements adding nothing. -/
def State.padded (s : State) : Option State :=
  if s.abspos = 0 then some s else s.permuted.map fun s' => s'.setAbspos 0

/-- `HFIN` (R120). The check of `HANY` comes before the reads, as the rule's pseudocode has it (log entry 6). -/
def execHfin (s : State) : Result :=
  inMode .ready s fun s =>
    if s.hopen = false then fail s .seq
    else if s.hany = false then fail s .input
    else orUninit s.padded fun s' =>
      readElem s' 0 fun a => readElem s' 1 fun b => readElem s' 2 fun c => readElem s' 3 fun d =>
        done (((s'.setDigest a b c d).setDvalid true).setHopen false) 0

/-- `HSQZ i` (R121). It reads `DG` only while `DVALID = 1`, so it can never be `UninitRead` (R141). -/
def execHsqz (i : Nat) (s : State) : Result :=
  inMode .ready s fun s =>
    if s.dvalid = false then fail s .seq
    else if 3 < i then fail s .index
    else done s (s.dgAt i)

end Sys2Proof.Machine
end

