-- ==== Sys2Proof/Machine/System.lean ====
section
/-! DEFINITION. The two system commands (44_system.md), which run in every mode, `FATAL` included. -/

namespace Sys2Proof.Machine

/-- `NOP` (R125). -/
def execNop (s : State) : Result :=
  inMode .any s fun s => done s 0

/-- `CSRR n` (R126). -/
def execCsrr (n : Nat) (s : State) : Result :=
  inMode .any s fun s =>
    match s.csrAt n with
    | some v => done s v
    | none => fail s .index

end Sys2Proof.Machine
end

