-- ==== Sys2Proof/Machine/Dispatch.lean ====
section
/-! DEFINITION. The meaning of each command of R59, one arm per constructor. -/

namespace Sys2Proof.Machine

def exec (i : Instr) (s : State) : Host.Outcome State Fault Refusal :=
  match i with
  | .nop => Sys2Proof.Machine.execNop s
  | .csrr n => Sys2Proof.Machine.execCsrr n s
  | .fadd fd fa fb => Sys2Proof.Machine.execFadd fd fa fb s
  | .fsub fd fa fb => Sys2Proof.Machine.execFsub fd fa fb s
  | .fmul fd fa fb => Sys2Proof.Machine.execFmul fd fa fb s
  | .fpow fd fa => Sys2Proof.Machine.execFpow fd fa s
  | .finv fd fa => Sys2Proof.Machine.execFinv fd fa s
  | .feq fa fb => Sys2Proof.Machine.execFeq fa fb s
  | .flt fa fb => Sys2Proof.Machine.execFlt fa fb s
  | .fldu fd => Sys2Proof.Machine.execFldu fd s
  | .flds fd => Sys2Proof.Machine.execFlds fd s
  | .fst fa => Sys2Proof.Machine.execFst fa s
  | .fmv fd fa => Sys2Proof.Machine.execFmv fd fa s
  | .sget fd k => Sys2Proof.Machine.execSget fd k s
  | .sput fa k => Sys2Proof.Machine.execSput fa k s
  | .szero => Sys2Proof.Machine.execSzero s
  | .sboxf => Sys2Proof.Machine.execSboxf s
  | .sboxi => Sys2Proof.Machine.execSboxi s
  | .mdsmul => Sys2Proof.Machine.execMdsmul s
  | .arc k => Sys2Proof.Machine.execArc k s
  | .pinit => Sys2Proof.Machine.execPinit s
  | .pstep => Sys2Proof.Machine.execPstep s
  | .perm => Sys2Proof.Machine.execPerm s
  | .hinit => Sys2Proof.Machine.execHinit s
  | .habs => Sys2Proof.Machine.execHabs s
  | .hfin => Sys2Proof.Machine.execHfin s
  | .hsqz k => Sys2Proof.Machine.execHsqz k s
  | .habsr fa => Sys2Proof.Machine.execHabsr fa s
  | .pcfg sel => Sys2Proof.Machine.execPcfg sel s
  | .pmds => Sys2Proof.Machine.execPmds s
  | .prck => Sys2Proof.Machine.execPrck s
  | .pcommit => Sys2Proof.Machine.execPcommit s
  | .pclear => Sys2Proof.Machine.execPclear s
  | .prdcfg sel => Sys2Proof.Machine.execPrdcfg sel s
  | .prdmds q => Sys2Proof.Machine.execPrdmds q s
  | .prdrc q => Sys2Proof.Machine.execPrdrc q s

end Sys2Proof.Machine
end

