-- ==== Sys2Proof/Machine/Channel.lean ====
section
/-! DEFINITION. The two channels and the reset input (R53, R148, R152): how a command word is presented, executed and
answered, and what reset does. Machine/Step.lean calls these. -/

namespace Sys2Proof.Machine

/-- The core with the data word `din` beside the command being executed, `rest` still to be presented (R53). -/
def State.present (s : State) (din : Nat) (rest : List HostInput) : State :=
  { s with din := din, inputs := rest }

/-- Reset (R152): the core's whole state becomes the reset state of its build; the host's side of the channels, the
inputs still to come and the responses already given, stays. -/
def State.afterReset (s : State) (rest : List HostInput) : State :=
  { State.resetOf s.build with inputs := rest, responses := s.responses }

/-- One command word executed in full: an illegal word answers `E_ILLEGAL` in every mode, before any other check (R60,
R131, R144 line 1); any other runs its command. -/
def runWord (cmd : CmdWord) (s : State) : Result :=
  match decode cmd with
  | .error _ => fail s .illegal
  | .ok i => exec i s

/-- The host's next input carried to its end. A command is atomic (R44) and answered before the next is taken (R157);
a reset, also one asserted while a command executes, answers nothing and leaves the reset state (R152); with nothing
presented the core is idle and holds its state (R151). -/
def takeInput (s : State) : Result :=
  match s.inputs with
  | [] => .next s
  | .command cmd din :: rest => runWord cmd (s.present din rest)
  | .reset :: rest => .next (s.afterReset rest)
  | .resetDuring _ _ :: rest => .next (s.afterReset rest)

/-- `s` with the command word `cmd` presented next and `DIN = 0` beside it, before whatever else the host presents. -/
def State.presentNext (s : State) (cmd : CmdWord) : State :=
  { s with inputs := .command cmd 0 :: s.inputs }

end Sys2Proof.Machine
end

