-- ==== Sys2Proof/Machine/Step.lean ====
section
/-! DEFINITION. One step of the core, and the placing of a command word for the next step. What they do stands in
Machine/Channel.lean. -/

namespace Sys2Proof.Machine

/-- One step: the host's next input, carried to its end (R47, R157). -/
def step (s : State) : Host.Outcome State Fault Refusal := takeInput s

/-- `s` with the command word `w`, cut to `nbits` bits, presented next (log entry 2). -/
def State.withFetchWord (s : State) (nbits w : Nat) : State := s.presentNext (BitVec.ofNat 32 (w % 2 ^ nbits))

end Sys2Proof.Machine
end

