-- ==== Sys2Proof/Machine/Assembler.lean ====
section
/-! DEFINITION. The assembler notation (R62) and the pseudo-commands (R63). It is notation, not hardware: nothing of the
machine calls it. -/

namespace Sys2Proof.Machine

/-- The data word of a `#v` operand (R62): `zext_D(v)`, and for `FLDS` with negative `v` the `D`-bit two's complement
word. -/
def dataWord (b : Build) (v : Int) : Nat := (BitVec.ofInt b.dataBits v).toNat

/-- The name of a scalar register (R62). -/
def regName (r : Reg) : String := "f" ++ toString r.val

/-- The selector names of `PCFG` and `PRDCFG` (R62). -/
def cfgName : Nat → String
  | 0 => "P"
  | 1 => "M"
  | 2 => "N"
  | 3 => "ALPHA"
  | 4 => "AINV"
  | 5 => "RATE"
  | k => toString k

/-- The register names of `CSRR` (R32, R62). -/
def csrName : Nat → String
  | 0 => "STATUS"
  | 1 => "HRC"
  | 2 => "ABSPOS"
  | 3 => "MDSCNT"
  | 4 => "RCCNT"
  | 5 => "CAPM"
  | 6 => "CAPN"
  | 7 => "CAPD"
  | k => toString k

/-- The operands of a command that stand in `CMD`, in the order of R59's assembler column. -/
def cmdOperands : Instr → List String
  | .csrr n => [csrName n]
  | .fadd d a b | .fsub d a b | .fmul d a b => [regName d, regName a, regName b]
  | .fpow d a | .finv d a | .fmv d a => [regName d, regName a]
  | .feq a b | .flt a b => [regName a, regName b]
  | .fldu d | .flds d => [regName d]
  | .fst a | .habsr a => [regName a]
  | .sget d i => [regName d, toString i]
  | .sput a i => [regName a, toString i]
  | .arc k | .hsqz k | .prdmds k | .prdrc k => [toString k]
  | .pcfg sel | .prdcfg sel => [cfgName sel]
  | .nop | .szero | .sboxf | .sboxi | .mdsmul | .pinit | .pstep | .perm | .hinit | .habs | .hfin | .pmds | .prck
  | .pcommit | .pclear => []

/-- The `#v` operand of a command that reads `DIN` (R57, R62), in decimal. -/
def dataOperand (b : Build) (din : Nat) : DinUse → List String
  | .ignored => []
  | .unsigned => ["#" ++ toString (uint b din)]
  | .signed => ["#" ++ toString (sint b din)]

/-- One command in the notation of R62: the mnemonic, then the operands separated by commas. -/
def asmText (b : Build) (i : Instr) (din : Nat) : String :=
  match cmdOperands i ++ dataOperand b din i.row.din with
  | [] => i.row.mnemonic
  | ops => i.row.mnemonic ++ " " ++ String.intercalate ", " ops

/-- The seven pseudo-commands of R63. -/
inductive Pseudo where
  | fzero (fd : Reg)
  | fone (fd : Reg)
  | fsqr (fd fa : Reg)
  | fdbl (fd fa : Reg)
  | fneg (fd fa : Reg)
  | round
  | rescueHash (xs : List Nat)
  deriving DecidableEq, Repr

/-- The expansion of a pseudo-command into commands with their data words; `none` where R63's condition fails
(`FNEG` with `fd = fa`, `RESCUE_HASH` of nothing). -/
def Pseudo.expand : Pseudo → Option (List (Instr × Nat))
  | .fzero fd => some [(.fldu fd, 0)]
  | .fone fd => some [(.fldu fd, 1)]
  | .fsqr fd fa => some [(.fmul fd fa fa, 0)]
  | .fdbl fd fa => some [(.fadd fd fa fa, 0)]
  | .fneg fd fa => if fd = fa then none else some [(.fldu fd, 0), (.fsub fd fd fa, 0)]
  | .round => some [(.pstep, 0), (.pstep, 0)]
  | .rescueHash xs =>
    if xs = [] then none
    else some ((.hinit, 0) :: xs.map (fun x => (.habs, x)) ++
      [(.hfin, 0), (.hsqz 0, 0), (.hsqz 1, 0), (.hsqz 2, 0), (.hsqz 3, 0)])

end Sys2Proof.Machine
end

