-- ==== Sys2Proof/Machine/Platform.lean ====
section
/-! DEFINITION. Several cores side by side (R149): "the product of `K` independent single-core machines". A platform is
the list of its cores; each has its own channels and its own copy of all state, and none sees another. -/

namespace Sys2Proof.Machine

/-- Core `k` of the platform takes one step; there is no core beyond the list, and a step of one does nothing (log entry
9). DESIGN CHOICE (log entry 14): the fault `UninitRead` of one core ends the whole platform. R149 (independent cores) and
R141 (the model must stop) do not say whether the other cores go on. Safe: the model claims nothing beyond the fault. -/
def platformStep (k : Nat) (cores : List State) : Host.Outcome (List State) Fault Refusal :=
  match cores[k]? with
  | none => .next cores
  | some s =>
    match step s with
    | .next t => .next (cores.set k t)
    | .fault r => .fault r
    | .refused r => .refused r

/-- The platform under a schedule: at each turn the core the schedule names takes one step. It ends at the first fault, as
`platformStep` does (log entry 14). -/
def platformRun : List Nat → List State → Host.Outcome (List State) Fault Refusal
  | [], cores => .next cores
  | k :: rest, cores =>
    match platformStep k cores with
    | .next cs => platformRun rest cs
    | .fault r => .fault r
    | .refused r => .refused r

end Sys2Proof.Machine
end

