-- ==== Sys2Proof/Safety.lean ====
section
/-! DEFINITION. What the claims about ERC are stated with: the invariant of every reachable state (the ranges of R36 and
the relations its rules give between the fields), commands run one after another, and readings of the state vector. -/

namespace Sys2Proof.Machine

/-- What holds in mode `READY`, beside what holds in every mode. -/
structure ReadyInv (s : State) : Prop where
  /-- The checks (a) to (g) of R90 hold from the commit on (R30, R86). -/
  params_ok : s.paramsOk = true
  /-- Every table entry is a residue modulo `P` (R90). -/
  mds_reduced : ∀ v ∈ s.mdsBuf, v < s.p
  rc_reduced : ∀ v ∈ s.rcBuf, v < s.p
  /-- Every field-element location holds no value or an integer in `[0, P − 1]` (R20, R71). -/
  f_range : ∀ v, some v ∈ s.f.toList → v < s.p
  sv_range : ∀ v, some v ∈ s.sv → v < s.p
  dg_range : ∀ v ∈ s.dg.toList, v < s.p
  /-- `0 ≤ HRC ≤ 2·N` (R27). -/
  hrc_range : s.hrc ≤ 2 * s.n
  /-- `0 ≤ ABSPOS ≤ RATE − 1` (R28). -/
  abspos_range : s.abspos < s.rate
  /-- A block can be half full only in an open call that has absorbed something (R28). -/
  abspos_open : s.abspos ≠ 0 → s.hopen = true ∧ s.hany = true
  /-- In an open call every element of `S[0 … M − 1]` holds a value (R116, R141). -/
  open_filled : s.hopen = true → ∀ i < s.m, (s.sAt i).isSome
  /-- A call that is open has no valid digest yet (R116, R120). -/
  open_not_valid : s.hopen = true → s.dvalid = false

/-- What holds before a commit and after a fatal error: no arithmetic command has run (R21, R133, R142). -/
structure EmptyInv (s : State) : Prop where
  f_empty : ∀ e ∈ s.f.toList, e = none
  sv_empty : ∀ e ∈ s.sv, e = none
  /-- The model's choice for a digest that nothing has latched (log entry 15). -/
  dg_zero : ∀ v ∈ s.dg.toList, v = 0
  hrc_zero : s.hrc = 0
  hopen_false : s.hopen = false
  hany_false : s.hany = false
  abspos_zero : s.abspos = 0
  dvalid_false : s.dvalid = false

/-- The invariant of the machine. -/
structure Inv (s : State) : Prop where
  /-- The build is one R10 allows. -/
  build_ok : s.build.ok = true
  /-- The configuration registers are `D` bits wide (R30). -/
  cfg_fits : ∀ sel v, s.cfgAt sel = some v → v < 2 ^ s.build.dataBits
  /-- Entry `q` of a table has a value exactly when `q` is below its counter and its capacity (R31). -/
  mds_length : s.mdsBuf.length = min s.mdsCnt s.build.mdsCap
  rc_length : s.rcBuf.length = min s.rcCnt s.build.rcCap
  /-- A counter passes its capacity by at most the overflow mark (R31). -/
  mds_count : s.mdsCnt ≤ s.build.mdsCap + 1
  rc_count : s.rcCnt ≤ s.build.rcCap + 1
  /-- Table entries are `D` bits wide (R31). -/
  mds_fits : ∀ v ∈ s.mdsBuf, v < 2 ^ s.build.dataBits
  rc_fits : ∀ v ∈ s.rcBuf, v < 2 ^ s.build.dataBits
  /-- `S` has `M_MAX` elements (R24). -/
  sv_length : s.sv.length = s.build.mMax
  /-- `FCAUSE` is 9 in `FATAL` (no rule raises `E_INTERNAL`, R140) and 0 elsewhere (R29). -/
  fcause_mode : s.fcause = if s.mode = .fatal then 9 else 0
  /-- Every answer fits the `D` wires of `DOUT` (R58), and an error's `DOUT` is 0 (R53). -/
  responses_ok : ∀ r ∈ s.responses, r.dout < 2 ^ s.build.dataBits ∧ (r.status ≠ .ok → r.dout = 0)
  ready : s.mode = .ready → ReadyInv s
  empty : s.mode ≠ .ready → EmptyInv s

/-- Commands executed one after another (R47), all with the data word that stands on `DIN`. -/
def runInstrs : List Instr → State → Result
  | [], s => .next s
  | i :: rest, s =>
    match exec i s with
    | .next t => runInstrs rest t
    | .fault r => .fault r
    | .refused r => .refused r

/-- Commands executed one after another, each with its own data word. -/
def runWithDin : List (Instr × Nat) → State → Result
  | [], s => .next s
  | (i, d) :: rest, s =>
    match exec i { s with din := d } with
    | .next t => runWithDin rest t
    | .fault r => .fault r
    | .refused r => .refused r

/-- `S[0 … M − 1]` holds exactly the values `t`. -/
abbrev State.VecIs (s : State) (t : List Nat) : Prop :=
  t.length = s.m ∧ ∀ j < s.m, s.sAt j = some (t.getD j 0)

/-- The answer with `f` applied to its next state. -/
def mapNext (f : State → State) : Result → Result
  | .next t => .next (f t)
  | .fault r => .fault r
  | .refused r => .refused r

/-- The inputs of one hash call (R114): `HINIT`, one `HABS` per element, `HFIN`, `HSQZ 0` to `HSQZ 3`, as words. -/
def hashCall (xs : List Nat) : List HostInput :=
  .command 0x40000000 0 :: xs.map (.command 0x41000000) ++
    [.command 0x42000000 0, .command 0x43000000 0, .command 0x43000001 0, .command 0x43000002 0,
     .command 0x43000003 0]

end Sys2Proof.Machine
end

