-- ==== Sys2Proof/Certificates/Slice0/Obligations.lean ====
section
/-! DEFINITION. The statements for the provers. They come from the numbered rules of spec/; a statement's docstring names
the rules it formalises. Results are written as integer arithmetic, not with the model's own arithmetic functions, and a
statement whose conclusion is `exec i s = .next { s with … }` says at once the result, the response and the frame: every
field it does not name is unchanged. -/

open Sys2Proof Sys2Proof.Machine

/-! ### Encoding -/

/-- Decode and encode agree: no bit of a well-formed command's encoding is dropped (R54, R55, R60). -/
def Obligations.DecodeEncodeRoundTrip : Prop :=
  ∀ i : Instr, i.wf = true → decode (encode i) = .ok i

/-- Each word has one meaning: a word that decodes to a command is that command's encoding, and the command is well
formed (R54, R55, R60). -/
def Obligations.EncodeDecodeRoundTrip : Prop :=
  ∀ (w : CmdWord) (i : Instr), decode w = .ok i → encode i = w ∧ i.wf = true

/-- R55: "a word `w` selects a command exactly when `w & mask = match`, with `match = op << 24`", and its table of masks.
The decoder is written with the must-be-zero column; this says that the mask column is the same. -/
def Obligations.DecodeSelectsByMask : Prop :=
  (Format.Z.mask = 0xFFFFFFFF ∧ Format.RRR.mask = 0xFF000FFF ∧ Format.RR.mask = 0xFF00FFFF ∧
    Format.RC.mask = 0xFFF00FFF ∧ Format.RD.mask = 0xFF0FFFFF ∧ Format.RS.mask = 0xFFF0FFFF ∧
    Format.RDI.mask = 0xFF0F0000 ∧ Format.RSI.mask = 0xFFF00000 ∧ Format.I.mask = 0xFFFF0000) ∧
  ∀ (w : CmdWord), ∀ r ∈ opcodeTable,
    (w &&& r.format.mask = BitVec.ofNat 32 r.op <<< 24 ↔ ∃ i, decode w = .ok i ∧ i.row = r)

/-- R61's list of the 220 reserved opcodes, all of them illegal, whatever the other bits. -/
def Obligations.ReservedOpcodesAreIllegal : Prop :=
  ∀ (w : CmdWord) (op : Nat), bits w 31 24 = op →
    (2 ≤ op ∧ op ≤ 0x0F) ∨ op = 0x17 ∨ (0x1C ≤ op ∧ op ≤ 0x1F) ∨ (0x23 ≤ op ∧ op ≤ 0x2F) ∨
      (0x34 ≤ op ∧ op ≤ 0x37) ∨ (0x3B ≤ op ∧ op ≤ 0x3F) ∨ (0x45 ≤ op ∧ op ≤ 0x4F) ∨ 0x58 ≤ op →
    decode w = .error (.unassigned op)

/-- Words the spec spells out (R73 to R121 and 96_family_vectors.md section 1) decode to the commands it names. -/
def Obligations.SpecWordsDecode : Prop :=
  decode 0x00000000 = .ok .nop ∧ decode 0x01000007 = .ok (.csrr 7) ∧ decode 0x10312000 = .ok (.fadd 3 1 2) ∧
    decode 0x14310000 = .ok (.finv 3 1) ∧ decode 0x15034000 = .ok (.feq 3 4) ∧ decode 0x18300000 = .ok (.fldu 3) ∧
    decode 0x1A030000 = .ok (.fst 3) ∧ decode 0x20500002 = .ok (.sget 5 2) ∧ decode 0x21000003 = .ok (.sput 0 3) ∧
    decode 0x33000001 = .ok (.arc 1) ∧ decode 0x44010000 = .ok (.habsr 1) ∧ decode 0x50000005 = .ok (.pcfg 5) ∧
    decode 0x10312001 = .error (.mustBeZero 0x10) ∧ decode 0xFFFFFFFF = .error (.unassigned 0xFF)

/-! ### The step, the channels and reset -/

/-- A step runs the decoded command: with the data word beside it on `DIN`, and the rest of the host's inputs left. -/
def Obligations.StepRunsDecodedCommand : Prop :=
  ∀ (s : State) (w : CmdWord) (d : Nat) (rest : List HostInput) (i : Instr),
    s.inputs = .command w d :: rest → decode w = .ok i → step s = exec i { s with din := d, inputs := rest }

/-- R131: a word that is no command answers `E_ILLEGAL` in every mode and changes nothing. -/
def Obligations.IllegalWordAnswersIllegal : Prop :=
  ∀ (s : State) (w : CmdWord) (d : Nat) (rest : List HostInput) (e : DecodeError),
    s.inputs = .command w d :: rest → decode w = .error e →
    step s = .next { s with din := d, inputs := rest, responses := s.responses ++ [⟨.illegal, 0⟩] }

/-- R152: reset, in any mode and also while a command executes, puts every piece of state to its reset value; the command
in progress gets no response. What the host still has to present stays, and so does the build. That `DG` is 0 is the
model's choice (log entry 15): the spec says no value, any value being allowed (U13). -/
def Obligations.ResetInputGivesResetState : Prop :=
  ∀ (s : State) (w : CmdWord) (d : Nat) (rest : List HostInput),
    s.inputs = .reset :: rest ∨ s.inputs = .resetDuring w d :: rest →
    ∃ t, step s = .next t ∧ t.mode = .unconf ∧ t.fcause = 0 ∧ t.p = 0 ∧ t.m = 0 ∧ t.n = 0 ∧ t.alpha = 0 ∧ t.ainv = 0 ∧
      t.rate = 0 ∧ t.mdsCnt = 0 ∧ t.rcCnt = 0 ∧ t.mdsBuf = [] ∧ t.rcBuf = [] ∧ (∀ r : Reg, t.f[r] = none) ∧
      (∀ i, t.sAt i = none) ∧ (∀ i : Fin 4, t.dg[i] = 0) ∧ t.hrc = 0 ∧ t.hopen = false ∧ t.hany = false ∧
      t.dvalid = false ∧ t.abspos = 0 ∧ t.responses = s.responses ∧ t.inputs = rest ∧ t.build = s.build

/-- The table of R36: the reset value of every piece of state, for a core of any build. That `DG` is 0 is the model's choice
(log entry 15). -/
def Obligations.ResetStateValues : Prop :=
  ∀ b : Build,
    let s := State.resetOf b
    s.mode = .unconf ∧ s.fcause = 0 ∧ s.p = 0 ∧ s.m = 0 ∧ s.n = 0 ∧ s.alpha = 0 ∧ s.ainv = 0 ∧ s.rate = 0 ∧
      s.mdsBuf = [] ∧ s.rcBuf = [] ∧ s.mdsCnt = 0 ∧ s.rcCnt = 0 ∧ (∀ r : Reg, s.f[r] = none) ∧
      s.sv.length = b.mMax ∧ (∀ i, s.sAt i = none) ∧ s.hrc = 0 ∧ s.hopen = false ∧ s.hany = false ∧ s.abspos = 0 ∧
      (∀ i : Fin 4, s.dg[i] = 0) ∧ s.dvalid = false

/-- R151: "Between commands the core is idle and holds its state." -/
def Obligations.IdleCoreHoldsState : Prop :=
  ∀ s : State, s.inputs = [] → step s = .next s

/-- R53: "Every command gets exactly one response", an error's `DOUT` is 0, and a command leaves the channels and the
build alone. -/
def Obligations.EveryCommandAnswersOnce : Prop :=
  ∀ (i : Instr) (s t : State), exec i s = .next t →
    ∃ r : Response, t.responses = s.responses ++ [r] ∧ (r.status ≠ .ok → r.dout = 0) ∧
      t.inputs = s.inputs ∧ t.din = s.din ∧ t.build = s.build

/-- R53: "Commands that do not use `DIN` ignore it entirely: any `DIN` value gives the same behaviour." -/
def Obligations.IgnoredDinHasNoEffect : Prop :=
  ∀ (i : Instr) (s : State) (d : Nat), i.row.din = .ignored →
    exec i { s with din := d } = mapNext (fun t => { t with din := d }) (exec i s)

/-! ### Modes and errors -/

/-- R132, R133, R134: the errors of the mode, answered before the command's own rule and changing nothing. -/
def Obligations.ModeErrorsComeFirst : Prop :=
  ∀ (i : Instr) (s : State),
    (s.mode = .fatal → i ≠ .nop → (∀ n, i ≠ .csrr n) →
      exec i s = .next { s with responses := s.responses ++ [⟨.fatal, 0⟩] }) ∧
    (s.mode = .unconf → i.row.need = .ready →
      exec i s = .next { s with responses := s.responses ++ [⟨.noparam, 0⟩] }) ∧
    (s.mode = .ready → i = .pmds ∨ i = .prck ∨ i = .pcommit ∨ i = .pclear ∨ (∃ sel, i = .pcfg sel) →
      exec i s = .next { s with responses := s.responses ++ [⟨.locked, 0⟩] })

/-- R129: in `FATAL` no command changes anything but its own response, which is `E_FATAL` for every command but `NOP` and
`CSRR`, and no command leaves the mode. -/
def Obligations.FatalModeIsAbsorbing : Prop :=
  ∀ (s : State) (w : CmdWord) (d : Nat) (rest : List HostInput),
    s.mode = .fatal → s.inputs = .command w d :: rest →
    ∃ r : Response, step s = .next { s with din := d, inputs := rest, responses := s.responses ++ [r] } ∧
      (∀ i, decode w = .ok i → i ≠ .nop → (∀ n, i ≠ .csrr n) → r = ⟨.fatal, 0⟩)

/-- R86: in mode `READY` no command changes the parameter store, and none leaves the mode; the five parameter writes
answer `E_LOCKED` and change nothing. -/
def Obligations.ReadyStoreIsImmutable : Prop :=
  ∀ (i : Instr) (s t : State), s.mode = .ready → exec i s = .next t →
    t.mode = .ready ∧ t.p = s.p ∧ t.m = s.m ∧ t.n = s.n ∧ t.alpha = s.alpha ∧ t.ainv = s.ainv ∧ t.rate = s.rate ∧
      t.mdsBuf = s.mdsBuf ∧ t.rcBuf = s.rcBuf ∧ t.mdsCnt = s.mdsCnt ∧ t.rcCnt = s.rcCnt ∧
      (i = .pmds ∨ i = .prck ∨ i = .pcommit ∨ i = .pclear ∨ (∃ sel, i = .pcfg sel) →
        t = { s with responses := s.responses ++ [⟨.locked, 0⟩] })

/-- R44: a command that answers a non-fatal error has changed nothing, with the single exception of the overflow mark of
`PMDS` and `PRCK`. -/
def Obligations.FailedCommandChangesNothing : Prop :=
  ∀ (i : Instr) (s t : State) (r : Response), exec i s = .next t → t.responses = s.responses ++ [r] →
    r.status ≠ .ok → r.status ≠ .param → r.status ≠ .internal →
    t = { s with responses := s.responses ++ [r] } ∨
    (i = .pmds ∧ r.status = .index ∧
      t = { s with mdsCnt := s.build.mMax * s.build.mMax + 1, responses := s.responses ++ [r] }) ∨
    (i = .prck ∧ r.status = .index ∧
      t = { s with rcCnt := 2 * s.build.nMax * s.build.mMax + 1, responses := s.responses ++ [r] })

/-- R29's transitions: only `PCOMMIT` in `UNCONF` moves the mode, to `READY` with `OK` or to `FATAL` with `E_PARAM` and
`FCAUSE = 9`; nothing else writes `FCAUSE`. -/
def Obligations.OnlyCommitMovesMode : Prop :=
  ∀ (i : Instr) (s t : State), exec i s = .next t → t.mode ≠ s.mode ∨ t.fcause ≠ s.fcause →
    i = .pcommit ∧ s.mode = .unconf ∧
      ((t.mode = .ready ∧ t.fcause = s.fcause ∧ t.responses = s.responses ++ [⟨.ok, 0⟩]) ∨
        (t.mode = .fatal ∧ t.fcause = 9 ∧ t.responses = s.responses ++ [⟨.param, 0⟩]))

/-- The columns "raised by" of R130 and "fatal" of R129: which commands can answer which error, and that a decoded command
never answers `E_ILLEGAL` nor `E_INTERNAL`. -/
def Obligations.ErrorsComeFromTheirCommands : Prop :=
  ∀ (i : Instr) (s t : State) (r : Response), exec i s = .next t → t.responses = s.responses ++ [r] →
    r.status ≠ .illegal ∧ r.status ≠ .internal ∧
    (r.status = .fatal → i ≠ .nop ∧ ∀ n, i ≠ .csrr n) ∧
    (r.status = .noparam → i.row.need = .ready) ∧
    (r.status = .locked → i = .pmds ∨ i = .prck ∨ i = .pcommit ∨ i = .pclear ∨ ∃ sel, i = .pcfg sel) ∧
    (r.status = .seq → i = .pstep ∨ i = .habs ∨ i = .hfin ∨ (∃ fa, i = .habsr fa) ∨ ∃ k, i = .hsqz k) ∧
    (r.status = .index → i = .pmds ∨ i = .prck ∨ ∃ k, i = .csrr k ∨ (∃ fd, i = .sget fd k) ∨
      (∃ fa, i = .sput fa k) ∨ i = .arc k ∨ i = .hsqz k ∨ i = .pcfg k ∨ i = .prdcfg k ∨ i = .prdmds k ∨
      i = .prdrc k) ∧
    (r.status = .invop → ∃ fd fa, i = .finv fd fa) ∧
    (r.status = .input → i = .hfin) ∧
    (r.status = .param → i = .pcommit)

/-- The columns "written by" of R36, with R23 to R31: each piece of state is changed by the commands the spec names and by
no other. -/
def Obligations.StateHasItsWriters : Prop :=
  ∀ (i : Instr) (s t : State), exec i s = .next t →
    (t.f ≠ s.f → (∃ fd, i = .fldu fd ∨ i = .flds fd) ∨ (∃ fd fa, i = .fmv fd fa ∨ i = .fpow fd fa ∨ i = .finv fd fa) ∨
      (∃ fd fa fb, i = .fadd fd fa fb ∨ i = .fsub fd fa fb ∨ i = .fmul fd fa fb) ∨ ∃ fd k, i = .sget fd k) ∧
    (t.sv ≠ s.sv → (∃ fa k, i = .sput fa k) ∨ i = .szero ∨ i = .sboxf ∨ i = .sboxi ∨ i = .mdsmul ∨ (∃ k, i = .arc k) ∨
      i = .pstep ∨ i = .perm ∨ i = .hinit ∨ i = .habs ∨ (∃ fa, i = .habsr fa) ∨ i = .hfin) ∧
    (t.hrc ≠ s.hrc → i = .pinit ∨ i = .pstep ∨ i = .perm ∨ i = .habs ∨ (∃ fa, i = .habsr fa) ∨ i = .hfin) ∧
    (t.hopen ≠ s.hopen ∨ t.hany ≠ s.hany ∨ t.abspos ≠ s.abspos →
      i = .hinit ∨ i = .habs ∨ (∃ fa, i = .habsr fa) ∨ i = .hfin) ∧
    (t.dg ≠ s.dg → i = .hfin) ∧
    (t.dvalid ≠ s.dvalid → i = .hfin ∨ i = .hinit) ∧
    (t.p ≠ s.p ∨ t.m ≠ s.m ∨ t.n ≠ s.n ∨ t.alpha ≠ s.alpha ∨ t.ainv ≠ s.ainv ∨ t.rate ≠ s.rate →
      (∃ sel, i = .pcfg sel) ∨ i = .pclear) ∧
    (t.mdsBuf ≠ s.mdsBuf → i = .pmds ∨ i = .pclear ∨ i = .pcommit) ∧
    (t.rcBuf ≠ s.rcBuf → i = .prck ∨ i = .pclear ∨ i = .pcommit) ∧
    (t.mdsCnt ≠ s.mdsCnt → i = .pmds ∨ i = .pclear) ∧
    (t.rcCnt ≠ s.rcCnt → i = .prck ∨ i = .pclear) ∧
    (t.mode ≠ s.mode ∨ t.fcause ≠ s.fcause → i = .pcommit)

/-- R45: "No read has a side effect", and a read repeated with nothing in between gives the same answer. -/
def Obligations.ReadCommandsChangeNothing : Prop :=
  ∀ (i : Instr) (s t : State),
    (∃ k, i = .hsqz k ∨ i = .prdcfg k ∨ i = .prdmds k ∨ i = .prdrc k ∨ i = .csrr k) ∨
      (∃ fa, i = .fst fa) ∨ (∃ fa fb, i = .feq fa fb ∨ i = .flt fa fb) →
    exec i s = .next t →
    ∃ r : Response, t = { s with responses := s.responses ++ [r] } ∧
      exec i t = .next { s with responses := s.responses ++ [r] ++ [r] }

/-! ### The invariant -/

/-- The state after reset of every build that R10 allows meets the invariant. -/
def Obligations.ResetMeetsInvariant : Prop :=
  ∀ b : Build, b.ok = true → Inv (State.resetOf b)

/-- Every step keeps the invariant: the ranges of R36, the relations between tables, counters and modes, and the range of
every response. -/
def Obligations.StepKeepsInvariant : Prop :=
  ∀ s t : State, Inv s → step s = .next t → Inv t

/-- R141: "After `SZERO` or `HINIT` no element of `S[0 … M − 1]` ever holds no value again until reset": both fill the
vector, and no command takes the value of an element away. -/
def Obligations.StateElementsKeepValues : Prop :=
  (∀ (i : Instr) (s t : State), i = .szero ∨ i = .hinit → s.mode = .ready → exec i s = .next t →
    ∀ j < s.m, (t.sAt j).isSome) ∧
  ∀ (i : Instr) (s t : State), exec i s = .next t → ∀ j, (s.sAt j).isSome → (t.sAt j).isSome

/-- R141: in a state that meets the invariant, `UninitRead` arises only from the commands the rule lists, every command
answers a next state or that fault, and none is refused. -/
def Obligations.UninitReadOnlyFromListedCommands : Prop :=
  ∀ (i : Instr) (s : State), Inv s →
    (∃ t, exec i s = .next t) ∨
    (exec i s = .fault .uninitRead ∧ s.mode = .ready ∧
      ((∃ fa, (i = .fst fa ∨ (∃ fd, i = .fmv fd fa) ∨ (∃ fd, i = .fpow fd fa) ∨ (∃ fd, i = .finv fd fa) ∨
          (∃ k, i = .sput fa k) ∨ i = .habsr fa) ∧ s.f[fa] = none) ∨
        (∃ fa fb, ((∃ fd, i = .fadd fd fa fb ∨ i = .fsub fd fa fb ∨ i = .fmul fd fa fb) ∨ i = .feq fa fb ∨
          i = .flt fa fb) ∧ (s.f[fa] = none ∨ s.f[fb] = none)) ∨
        ((∃ fd k, i = .sget fd k) ∨ i = .sboxf ∨ i = .sboxi ∨ i = .mdsmul ∨ (∃ k, i = .arc k) ∨ i = .pstep ∨
          i = .perm) ∧ ∃ j < s.m, s.sAt j = none))

/-! ### System commands -/

/-- R125: `NOP` answers `OK` in every mode and changes no state; its word is zero, and any other word with its opcode is
illegal. -/
def Obligations.NopChangesNothing : Prop :=
  (∀ s : State, exec .nop s = .next { s with responses := s.responses ++ [⟨.ok, 0⟩] }) ∧
    ∀ w : CmdWord, bits w 31 24 = 0 → if w = 0 then decode w = .ok .nop else decode w = .error (.mustBeZero 0)

/-- R126: `CSRR n`, the word `0x01000000 + n`, answers the status register in every mode; 8 and above name none. -/
def Obligations.CsrrReadsStatusRegisters : Prop :=
  (∀ n < 65536, decode (BitVec.ofNat 32 (0x01000000 + n)) = .ok (.csrr n)) ∧
  ∀ s : State,
    (∀ v n, (n = 0 ∧ v = s.mode.code + 4 * s.hopen.toNat + 8 * s.hany.toNat + 16 * s.dvalid.toNat +
          256 * s.fcause.toNat) ∨
        (n = 1 ∧ v = s.hrc) ∨ (n = 2 ∧ v = s.abspos) ∨ (n = 3 ∧ v = s.mdsCnt) ∨ (n = 4 ∧ v = s.rcCnt) ∨
        (n = 5 ∧ v = s.build.mMax) ∨ (n = 6 ∧ v = s.build.nMax) ∨ (n = 7 ∧ v = s.build.dataBits) →
      exec (.csrr n) s = .next { s with responses := s.responses ++ [⟨.ok, v⟩] }) ∧
    ∀ n, 8 ≤ n → exec (.csrr n) s = .next { s with responses := s.responses ++ [⟨.index, 0⟩] }

/-- R33: the fields of the `STATUS` word, bit range by bit range. -/
def Obligations.StatusWordFields : Prop :=
  ∀ s : State, ∃ v, exec (.csrr 0) s = .next { s with responses := s.responses ++ [⟨.ok, v⟩] } ∧
    (v % 4 = if s.mode = .unconf then 0 else if s.mode = .ready then 1 else 2) ∧
    v.testBit 2 = s.hopen ∧ v.testBit 3 = s.hany ∧ v.testBit 4 = s.dvalid ∧ v / 2 ^ 5 % 2 ^ 3 = 0 ∧
    v / 2 ^ 8 % 2 ^ 4 = s.fcause.toNat ∧ v / 2 ^ 12 = 0

/-! ### Field arithmetic -/

/-- R73, R74 with R12 and R13: `FLDU` and `FLDS` reduce the `D`-bit word on `DIN`, read as unsigned or as two's complement,
the Euclidean way. -/
def Obligations.LoadsConstructFieldElements : Prop :=
  ∀ (s : State) (fd : Reg) (u : Nat), s.mode = .ready → u = s.din % 2 ^ s.build.dataBits →
    exec (.fldu fd) s = .next { s with f := s.f.set fd (some (u % s.p)), responses := s.responses ++ [⟨.ok, 0⟩] } ∧
    (2 * u < 2 ^ s.build.dataBits → exec (.flds fd) s =
      .next { s with f := s.f.set fd (some (u % s.p)), responses := s.responses ++ [⟨.ok, 0⟩] }) ∧
    (2 ^ s.build.dataBits ≤ 2 * u → exec (.flds fd) s =
      .next { s with f := s.f.set fd (some (((u : Int) - 2 ^ s.build.dataBits) % (s.p : Int)).toNat),
                     responses := s.responses ++ [⟨.ok, 0⟩] })

/-- R77, R78, R79: the sums, differences and products modulo `P`; any of the three registers may coincide. -/
def Obligations.AddSubMulAreModular : Prop :=
  ∀ (s : State) (fd fa fb : Reg) (a b : Nat), s.mode = .ready → s.f[fa] = some a → s.f[fb] = some b →
    exec (.fadd fd fa fb) s =
      .next { s with f := s.f.set fd (some ((a + b) % s.p)), responses := s.responses ++ [⟨.ok, 0⟩] } ∧
    exec (.fsub fd fa fb) s =
      .next { s with f := s.f.set fd (some (((a : Int) - (b : Int)) % (s.p : Int)).toNat),
                     responses := s.responses ++ [⟨.ok, 0⟩] } ∧
    exec (.fmul fd fa fb) s =
      .next { s with f := s.f.set fd (some (a * b % s.p)), responses := s.responses ++ [⟨.ok, 0⟩] }

/-- R68: the square-and-multiply loop computes the power modulo `P`, also for exponent 0 and base 0. -/
def Obligations.PowerLoopComputesPower : Prop :=
  ∀ p x e : Nat, pow p x e = x ^ e % p

/-- R80: `FPOW` raises to the integer on `DIN`, which is not reduced. -/
def Obligations.FpowRaisesToDin : Prop :=
  ∀ (s : State) (fd fa : Reg) (x : Nat), s.mode = .ready → s.f[fa] = some x →
    exec (.fpow fd fa) s =
      .next { s with f := s.f.set fd (some (x ^ (s.din % 2 ^ s.build.dataBits) % s.p)),
                     responses := s.responses ++ [⟨.ok, 0⟩] }

/-- R81 with R69: `FINV` writes the `(P − 2)`-th power; a zero source answers `E_INVOP` and writes nothing. -/
def Obligations.FinvIsFermatPower : Prop :=
  ∀ (s : State) (fd fa : Reg) (a : Nat), s.mode = .ready → s.f[fa] = some a →
    (a ≠ 0 → exec (.finv fd fa) s =
      .next { s with f := s.f.set fd (some (a ^ (s.p - 2) % s.p)), responses := s.responses ++ [⟨.ok, 0⟩] }) ∧
    (a = 0 → exec (.finv fd fa) s = .next { s with responses := s.responses ++ [⟨.invop, 0⟩] })

/-- R84: the two round-trip laws in commands. The first needs `P` prime (R9); the second holds for every `P ≥ 2`. -/
def Obligations.FieldRoundTrips : Prop :=
  ∀ (s : State) (r0 r1 r2 : Reg) (a : Nat), s.mode = .ready → r0 ≠ r1 → s.f[r0] = some a → a < s.p →
    (s.p.Prime → a ≠ 0 → ∃ t, runInstrs [.finv r1 r0, .fmul r2 r0 r1] s = .next t ∧ t.f[r2] = some 1) ∧
    (2 ≤ s.p → s.p < 2 ^ s.build.dataBits → s.din = s.p - a →
      ∃ t, runInstrs [.fldu r1, .fadd r2 r0 r1] s = .next t ∧ t.f[r2] = some 0)

/-- R82, R83: the comparisons answer on `DOUT` and change nothing. -/
def Obligations.ComparisonsAnswerOnDout : Prop :=
  ∀ (s : State) (fa fb : Reg) (a b : Nat), s.mode = .ready → s.f[fa] = some a → s.f[fb] = some b →
    exec (.feq fa fb) s = .next { s with responses := s.responses ++ [⟨.ok, if a = b then 1 else 0⟩] } ∧
    exec (.flt fa fb) s = .next { s with responses := s.responses ++ [⟨.ok, if a < b then 1 else 0⟩] }

/-- R75, R76: `FST` answers the register and changes nothing; `FMV` copies it. -/
def Obligations.StoreAndMoveRegister : Prop :=
  ∀ (s : State) (fd fa : Reg) (v : Nat), s.mode = .ready → s.f[fa] = some v →
    exec (.fst fa) s = .next { s with responses := s.responses ++ [⟨.ok, v⟩] } ∧
    exec (.fmv fd fa) s =
      .next { s with f := s.f.set fd (some v), responses := s.responses ++ [⟨.ok, 0⟩] }

/-- R20, R71: a field command that goes on leaves every register in `[0, P − 1]` when it was so before and `P ≥ 2`. The
statement is about single commands; the machine's invariant says it of every location. -/
def Obligations.FieldCommandsStayInRange : Prop :=
  ∀ (i : Instr) (s t : State), 2 ≤ s.p → s.mode = .ready →
    (∀ (r : Reg) (v : Nat), s.f[r] = some v → v < s.p) → (∀ j v, s.sAt j = some v → v < s.p) →
    exec i s = .next t → ∀ (r : Reg) (v : Nat), t.f[r] = some v → v < s.p

/-! ### State access and the layers -/

/-- R101, R102: the copies between a state element and a register, and `E_INDEX` at `i ≥ M`, checked before the read. -/
def Obligations.StateElementAccess : Prop :=
  ∀ (s : State) (r : Reg) (i v : Nat), s.mode = .ready →
    (i < s.m → s.sAt i = some v → exec (.sget r i) s =
      .next { s with f := s.f.set r (some v), responses := s.responses ++ [⟨.ok, 0⟩] }) ∧
    (i < s.m → s.f[r] = some v → exec (.sput r i) s =
      .next { s with sv := s.sv.set i (some v), responses := s.responses ++ [⟨.ok, 0⟩] }) ∧
    (s.m ≤ i → exec (.sget r i) s = .next { s with responses := s.responses ++ [⟨.index, 0⟩] } ∧
      exec (.sput r i) s = .next { s with responses := s.responses ++ [⟨.index, 0⟩] })

/-- R103, R109: `SZERO` writes zeros into `S[0 … M − 1]` and nothing above; `PINIT` sets `HRC` to 0. -/
def Obligations.ZeroAndRestart : Prop :=
  decode 0x22000000 = .ok .szero ∧ decode 0x38000000 = .ok .pinit ∧
  ∀ s : State, s.mode = .ready →
    exec .szero s = .next { s with sv := List.replicate s.m (some 0) ++ s.sv.drop s.m,
                                   responses := s.responses ++ [⟨.ok, 0⟩] } ∧
    exec .pinit s = .next { s with hrc := 0, responses := s.responses ++ [⟨.ok, 0⟩] }

/-- R104, R105 with R96: the S-boxes raise every element of `S[0 … M − 1]` to `ALPHA`, to `AINV`; no zero element raises an
error; `HRC` is not changed. -/
def Obligations.SboxesRaiseEveryElement : Prop :=
  ∀ (s : State) (u : List Nat), s.mode = .ready → s.VecIs u →
    exec .sboxf s = .next { s with sv := (u.map fun x => some (x ^ s.alpha % s.p)) ++ s.sv.drop s.m,
                                   responses := s.responses ++ [⟨.ok, 0⟩] } ∧
    exec .sboxi s = .next { s with sv := (u.map fun x => some (x ^ s.ainv % s.p)) ++ s.sv.drop s.m,
                                   responses := s.responses ++ [⟨.ok, 0⟩] }

/-- R105: when `P` is prime and `ALPHA · AINV ≡ 1 (mod P − 1)`, `SBOXI` after `SBOXF` restores `S`. -/
def Obligations.InverseSboxUndoesForward : Prop :=
  ∀ (s : State) (u : List Nat), s.mode = .ready → s.VecIs u → (∀ x ∈ u, x < s.p) → s.p.Prime →
    1 ≤ s.alpha → 1 ≤ s.ainv → s.alpha * s.ainv ≡ 1 [MOD s.p - 1] →
    ∃ t, runInstrs [.sboxf, .sboxi] s = .next t ∧ t.sv = s.sv

/-- R106 with R97 and R39: `MDSMUL` multiplies the state, a column vector, by the row-major matrix from the left. -/
def Obligations.MdsmulIsMatrixVectorProduct : Prop :=
  ∀ (s : State) (u : List Nat), s.mode = .ready → s.VecIs u →
    exec .mdsmul s =
      .next { s with
        sv := ((List.range s.m).map fun i =>
            some ((∑ j ∈ Finset.range s.m, s.mdsBuf.getD (i * s.m + j) 0 * u.getD j 0) % s.p)) ++ s.sv.drop s.m,
        responses := s.responses ++ [⟨.ok, 0⟩] }

/-- R107 with R98 and R39: `ARC k` adds constant vector `k`; `k ≥ 2·N` answers `E_INDEX`; `HRC` is not changed. -/
def Obligations.ArcAddsConstantVector : Prop :=
  ∀ (s : State) (u : List Nat) (k : Nat), s.mode = .ready →
    (s.VecIs u → k < 2 * s.n → exec (.arc k) s =
      .next { s with
        sv := ((List.range s.m).map fun j => some ((u.getD j 0 + s.rcBuf.getD (k * s.m + j) 0) % s.p)) ++
          s.sv.drop s.m,
        responses := s.responses ++ [⟨.ok, 0⟩] }) ∧
    (2 * s.n ≤ k → exec (.arc k) s = .next { s with responses := s.responses ++ [⟨.index, 0⟩] })

/-! ### The round controller -/

/-- R110 with R99: `PSTEP` at `HRC = h` raises every element to `ALPHA` (`h` even) or `AINV` (`h` odd), multiplies by the
matrix and adds constant vector `h`, in this order, then advances `HRC`; when the permutation is complete it answers
`E_SEQ` and changes nothing. -/
def Obligations.PstepIsOneHalfRound : Prop :=
  ∀ (s : State) (u : List Nat) (e : Nat), s.mode = .ready →
    (s.VecIs u → s.hrc < 2 * s.n → e = (if s.hrc % 2 = 0 then s.alpha else s.ainv) → exec .pstep s =
      .next { s with
        sv := ((List.range s.m).map fun i => some
            (((∑ j ∈ Finset.range s.m, s.mdsBuf.getD (i * s.m + j) 0 * (u.getD j 0 ^ e % s.p)) % s.p +
              s.rcBuf.getD (s.hrc * s.m + i) 0) % s.p)) ++ s.sv.drop s.m,
        hrc := s.hrc + 1, responses := s.responses ++ [⟨.ok, 0⟩] }) ∧
    (2 * s.n ≤ s.hrc → exec .pstep s = .next { s with responses := s.responses ++ [⟨.seq, 0⟩] })

/-- R112: `PERM` equals `PINIT` followed by `2·N` `PSTEP`s, whatever `HRC` was, and `PSTEP` at `HRC = h` equals the S-box of
`h`'s parity, `MDSMUL`, `ARC h` and `HRC <- h + 1`: the same final `S`, the same final `HRC`. -/
def Obligations.PermIsPinitAndPsteps : Prop :=
  ∀ (s : State) (u : List Nat), s.mode = .ready → s.VecIs u →
    (∃ t, runInstrs (.pinit :: List.replicate (2 * s.n) .pstep) s = .next t ∧ t.hrc = 2 * s.n ∧
      exec .perm s = .next { s with sv := t.sv, hrc := t.hrc, responses := s.responses ++ [⟨.ok, 0⟩] }) ∧
    (s.hrc < 2 * s.n →
      ∃ t, runInstrs [if s.hrc % 2 = 0 then .sboxf else .sboxi, .mdsmul, .arc s.hrc] s = .next t ∧
        exec .pstep s = .next { s with sv := t.sv, hrc := s.hrc + 1, responses := s.responses ++ [⟨.ok, 0⟩] })

/-! ### The sponge -/

/-- R116: `HINIT` zeroes `S[0 … M − 1]`, opens the call and invalidates the digest; it writes neither `DG` nor `HRC`. -/
def Obligations.HinitOpensCall : Prop :=
  decode 0x40000000 = .ok .hinit ∧
  ∀ s : State, s.mode = .ready →
    exec .hinit s = .next { s with sv := List.replicate s.m (some 0) ++ s.sv.drop s.m, abspos := 0, hany := false,
                                   hopen := true, dvalid := false, responses := s.responses ++ [⟨.ok, 0⟩] }

/-- R118 with R117: `HABS` adds the reduced integer into `S[ABSPOS]`; at the end of a block it permutes as `PERM` does and
starts the next block; with no open call it answers `E_SEQ`. -/
def Obligations.HabsAbsorbsInteger : Prop :=
  decode 0x41000000 = .ok .habs ∧
  ∀ (s s1 : State) (u : List Nat), s.mode = .ready →
    (s.hopen = true → s.VecIs u → s.abspos < s.m →
      s1 = { s with
        sv := s.sv.set s.abspos (some ((u.getD s.abspos 0 + s.din % 2 ^ s.build.dataBits % s.p) % s.p)) } →
      (s.abspos + 1 ≠ s.rate → exec .habs s =
        .next { s1 with hany := true, abspos := s.abspos + 1, responses := s.responses ++ [⟨.ok, 0⟩] }) ∧
      (s.abspos + 1 = s.rate → ∃ x, exec .perm s1 = .next x ∧ exec .habs s =
        .next { s1 with sv := x.sv, hrc := 2 * s.n, hany := true, abspos := 0,
                        responses := s.responses ++ [⟨.ok, 0⟩] })) ∧
    (s.hopen = false → exec .habs s = .next { s with responses := s.responses ++ [⟨.seq, 0⟩] })

/-- R119 with R117: `HABSR` absorbs the register's field element the same way. -/
def Obligations.HabsrAbsorbsRegister : Prop :=
  ∀ (s s1 : State) (u : List Nat) (fa : Reg) (v : Nat), s.mode = .ready →
    (s.hopen = true → s.VecIs u → s.abspos < s.m → s.f[fa] = some v →
      s1 = { s with sv := s.sv.set s.abspos (some ((u.getD s.abspos 0 + v) % s.p)) } →
      (s.abspos + 1 ≠ s.rate → exec (.habsr fa) s =
        .next { s1 with hany := true, abspos := s.abspos + 1, responses := s.responses ++ [⟨.ok, 0⟩] }) ∧
      (s.abspos + 1 = s.rate → ∃ x, exec .perm s1 = .next x ∧ exec (.habsr fa) s =
        .next { s1 with sv := x.sv, hrc := 2 * s.n, hany := true, abspos := 0,
                        responses := s.responses ++ [⟨.ok, 0⟩] })) ∧
    (s.hopen = false → exec (.habsr fa) s = .next { s with responses := s.responses ++ [⟨.seq, 0⟩] })

/-- R120: `HFIN` latches the first four elements, after the permutation of an incomplete last block; with no open call it
answers `E_SEQ`, with nothing absorbed `E_INPUT`, and the call stays open. -/
def Obligations.HfinLatchesDigest : Prop :=
  decode 0x42000000 = .ok .hfin ∧
  ∀ (s : State) (u : List Nat), s.mode = .ready →
    (s.hopen = true → s.hany = true → s.VecIs u → 4 ≤ s.m →
      (s.abspos = 0 → exec .hfin s =
        .next { s with dg := #v[u.getD 0 0, u.getD 1 0, u.getD 2 0, u.getD 3 0], dvalid := true, hopen := false,
                       responses := s.responses ++ [⟨.ok, 0⟩] }) ∧
      (s.abspos ≠ 0 → ∃ x w, exec .perm s = .next x ∧ x.VecIs w ∧ exec .hfin s =
        .next { s with sv := x.sv, hrc := 2 * s.n, abspos := 0,
                       dg := #v[w.getD 0 0, w.getD 1 0, w.getD 2 0, w.getD 3 0], dvalid := true, hopen := false,
                       responses := s.responses ++ [⟨.ok, 0⟩] })) ∧
    (s.hopen = false → exec .hfin s = .next { s with responses := s.responses ++ [⟨.seq, 0⟩] }) ∧
    (s.hopen = true → s.hany = false → exec .hfin s = .next { s with responses := s.responses ++ [⟨.input, 0⟩] })

/-- R121: `HSQZ i` answers digest element `i`; `E_SEQ` with no digest latched comes before `E_INDEX` for `i ≥ 4`. -/
def Obligations.HsqzReadsDigest : Prop :=
  (∀ i < 65536, decode (BitVec.ofNat 32 (0x43000000 + i)) = .ok (.hsqz i)) ∧
  ∀ (s : State) (i : Nat), s.mode = .ready →
    (s.dvalid = false → exec (.hsqz i) s = .next { s with responses := s.responses ++ [⟨.seq, 0⟩] }) ∧
    (s.dvalid = true → 4 ≤ i → exec (.hsqz i) s = .next { s with responses := s.responses ++ [⟨.index, 0⟩] }) ∧
    (s.dvalid = true → ∀ h : i < 4,
      exec (.hsqz i) s = .next { s with responses := s.responses ++ [⟨.ok, s.dg[i]⟩] })

/-- R114 with R113: from every reachable kind of state in mode `READY`, the command sequence of a hash call answers `OK`
to every command and its four `HSQZ` responses carry `rescue_hash` of the inputs, for every input list of length 1 or
more. The host's later inputs are left. -/
def Obligations.HashCallAnswersRescueHash : Prop :=
  ∀ (s : State) (xs : List Nat) (rest : List HostInput), Inv s → s.mode = .ready → xs ≠ [] →
    (∀ x ∈ xs, x < 2 ^ s.build.dataBits) → s.inputs = hashCall xs ++ rest →
    ∃ t, Sys2Proof.core.run (xs.length + 6) s = .next t ∧ t.inputs = rest ∧
      (rescueHash s.params xs).length = 4 ∧
      t.responses = s.responses ++ List.replicate (xs.length + 2) ⟨.ok, 0⟩ ++
        (rescueHash s.params xs).map fun v => ⟨.ok, v⟩

/-! ### The parameter store -/

/-- R87: `PCFG` writes the configuration register its selector names, unreduced; a selector of 6 or more answers
`E_INDEX`. -/
def Obligations.PcfgWritesConfiguration : Prop :=
  ∀ (s : State) (u : Nat), s.mode = .unconf → u = s.din % 2 ^ s.build.dataBits →
    exec (.pcfg 0) s = .next { s with p := u, responses := s.responses ++ [⟨.ok, 0⟩] } ∧
    exec (.pcfg 1) s = .next { s with m := u, responses := s.responses ++ [⟨.ok, 0⟩] } ∧
    exec (.pcfg 2) s = .next { s with n := u, responses := s.responses ++ [⟨.ok, 0⟩] } ∧
    exec (.pcfg 3) s = .next { s with alpha := u, responses := s.responses ++ [⟨.ok, 0⟩] } ∧
    exec (.pcfg 4) s = .next { s with ainv := u, responses := s.responses ++ [⟨.ok, 0⟩] } ∧
    exec (.pcfg 5) s = .next { s with rate := u, responses := s.responses ++ [⟨.ok, 0⟩] } ∧
    ∀ sel, 6 ≤ sel → exec (.pcfg sel) s = .next { s with responses := s.responses ++ [⟨.index, 0⟩] }

/-- R88: `PMDS` appends unreduced; on a full table it answers `E_INDEX` and leaves the overflow mark. -/
def Obligations.PmdsAppendsMatrixEntry : Prop :=
  ∀ s : State, s.mode = .unconf →
    (s.mdsCnt < s.build.mMax * s.build.mMax → exec .pmds s =
      .next { s with mdsBuf := s.mdsBuf ++ [s.din % 2 ^ s.build.dataBits], mdsCnt := s.mdsCnt + 1,
                     responses := s.responses ++ [⟨.ok, 0⟩] }) ∧
    (s.build.mMax * s.build.mMax ≤ s.mdsCnt → exec .pmds s =
      .next { s with mdsCnt := s.build.mMax * s.build.mMax + 1, responses := s.responses ++ [⟨.index, 0⟩] })

/-- R89: `PRCK` appends unreduced; on a full table it answers `E_INDEX` and leaves the overflow mark. -/
def Obligations.PrckAppendsConstant : Prop :=
  ∀ s : State, s.mode = .unconf →
    (s.rcCnt < 2 * s.build.nMax * s.build.mMax → exec .prck s =
      .next { s with rcBuf := s.rcBuf ++ [s.din % 2 ^ s.build.dataBits], rcCnt := s.rcCnt + 1,
                     responses := s.responses ++ [⟨.ok, 0⟩] }) ∧
    (2 * s.build.nMax * s.build.mMax ≤ s.rcCnt → exec .prck s =
      .next { s with rcCnt := 2 * s.build.nMax * s.build.mMax + 1, responses := s.responses ++ [⟨.index, 0⟩] })

/-- R90: `PCOMMIT` validates by the checks (a) to (g); success reduces both tables modulo `P` and locks the store in mode
`READY`, failure moves to `FATAL` with `FCAUSE = 9`. -/
def Obligations.PcommitValidatesAndLocks : Prop :=
  ∀ (s : State) (valid : Prop), s.mode = .unconf →
    (valid ↔ 2 ≤ s.p ∧ (4 ≤ s.m ∧ s.m ≤ s.build.mMax) ∧ (1 ≤ s.n ∧ s.n ≤ s.build.nMax) ∧
      (1 ≤ s.rate ∧ s.rate ≤ s.m) ∧ s.mdsCnt = s.m * s.m ∧ s.rcCnt = 2 * s.n * s.m ∧ 1 ≤ s.alpha ∧ 1 ≤ s.ainv) →
    (valid → exec .pcommit s =
      .next { s with mdsBuf := s.mdsBuf.map (· % s.p), rcBuf := s.rcBuf.map (· % s.p), mode := .ready,
                     responses := s.responses ++ [⟨.ok, 0⟩] }) ∧
    (¬valid → exec .pcommit s =
      .next { s with mode := .fatal, fcause := 9, responses := s.responses ++ [⟨.param, 0⟩] })

/-- R91: `PCLEAR` empties the parameter store. -/
def Obligations.PclearEmptiesStore : Prop :=
  ∀ s : State, s.mode = .unconf →
    exec .pclear s =
      .next { s with p := 0, m := 0, n := 0, alpha := 0, ainv := 0, rate := 0, mdsBuf := [], mdsCnt := 0,
                     rcBuf := [], rcCnt := 0, responses := s.responses ++ [⟨.ok, 0⟩] }

/-- R92, R93, R94: the parameter reads answer the register or the entry, or `E_INDEX`, in `UNCONF` and `READY`, and change
nothing. The entries of a table are the first elements of its list (the invariant ties the list to the counter). -/
def Obligations.ParameterReadsAnswerEntries : Prop :=
  ∀ (s : State) (q v : Nat), s.mode ≠ .fatal →
    ([s.p, s.m, s.n, s.alpha, s.ainv, s.rate][q]? = some v →
      exec (.prdcfg q) s = .next { s with responses := s.responses ++ [⟨.ok, v⟩] }) ∧
    (6 ≤ q → exec (.prdcfg q) s = .next { s with responses := s.responses ++ [⟨.index, 0⟩] }) ∧
    (q < s.mdsCnt → q < s.build.mMax * s.build.mMax → s.mdsBuf[q]? = some v →
      exec (.prdmds q) s = .next { s with responses := s.responses ++ [⟨.ok, v⟩] }) ∧
    (s.mdsCnt ≤ q ∨ s.build.mMax * s.build.mMax ≤ q →
      exec (.prdmds q) s = .next { s with responses := s.responses ++ [⟨.index, 0⟩] }) ∧
    (q < s.rcCnt → q < 2 * s.build.nMax * s.build.mMax → s.rcBuf[q]? = some v →
      exec (.prdrc q) s = .next { s with responses := s.responses ++ [⟨.ok, v⟩] }) ∧
    (s.rcCnt ≤ q ∨ 2 * s.build.nMax * s.build.mMax ≤ q →
      exec (.prdrc q) s = .next { s with responses := s.responses ++ [⟨.index, 0⟩] })

/-- R95: a load from an empty store, any interleaving of `PCFG`, `PMDS` and `PRCK`, leaves a store that depends on the
values of each stream alone: each register holds its last write, each table the values appended, in order, up to its
capacity, each counter their number, up to the overflow mark. -/
def Obligations.LoadDependsOnStreamsAlone : Prop :=
  ∀ (s : State) (cmds : List (Instr × Nat)), s.mode = .unconf →
    s.mdsBuf = [] → s.rcBuf = [] → s.mdsCnt = 0 → s.rcCnt = 0 →
    (∀ c ∈ cmds, c.1 = .pmds ∨ c.1 = .prck ∨ ∃ sel, c.1 = .pcfg sel) →
    ∃ t, runWithDin cmds s = .next t ∧
      (∀ sel < 6, t.cfgAt sel = ((cmds.filter fun c => decide (c.1 = .pcfg sel)).map fun c =>
        c.2 % 2 ^ s.build.dataBits).getLast?.or (s.cfgAt sel)) ∧
      t.mdsBuf = ((cmds.filter fun c => decide (c.1 = .pmds)).map fun c => c.2 % 2 ^ s.build.dataBits).take
        (s.build.mMax * s.build.mMax) ∧
      t.mdsCnt = min (cmds.filter fun c => decide (c.1 = .pmds)).length (s.build.mMax * s.build.mMax + 1) ∧
      t.rcBuf = ((cmds.filter fun c => decide (c.1 = .prck)).map fun c => c.2 % 2 ^ s.build.dataBits).take
        (2 * s.build.nMax * s.build.mMax) ∧
      t.rcCnt = min (cmds.filter fun c => decide (c.1 = .prck)).length (2 * s.build.nMax * s.build.mMax + 1)

/-! ### Reads of locations that hold no value, several cores, the notation -/

/-- R141: a command whose rule reads a register or a state element that holds no value is the model fault `UninitRead`. -/
def Obligations.UnwrittenReadIsFault : Prop :=
  ∀ (s : State) (fd fa fb : Reg) (i : Nat), s.mode = .ready →
    (s.f[fa] = none →
      (∀ c ∈ [Instr.fst fa, .fmv fd fa, .fpow fd fa, .finv fd fa, .fadd fd fa fb, .fadd fd fb fa, .fsub fd fa fb,
        .fsub fd fb fa, .fmul fd fa fb, .fmul fd fb fa, .feq fa fb, .feq fb fa, .flt fa fb, .flt fb fa],
        exec c s = .fault .uninitRead) ∧
      (i < s.m → exec (.sput fa i) s = .fault .uninitRead) ∧
      (s.hopen = true → exec (.habsr fa) s = .fault .uninitRead)) ∧
    (i < s.m → s.sAt i = none →
      (∀ c ∈ [Instr.sget fd i, .sboxf, .sboxi, .mdsmul, .perm], exec c s = .fault .uninitRead) ∧
      (∀ k < 2 * s.n, exec (.arc k) s = .fault .uninitRead) ∧
      (s.hrc < 2 * s.n → exec .pstep s = .fault .uninitRead))

/-- R149: `K` cores behave as `K` single-core machines. A step of core `k` puts `step`'s answer in place `k` and leaves every
other core as it was, so under every schedule each core ends where it ends alone after as many steps as the schedule
gives it. That a platform is a list of cores is the reading of log entry 9; that one core's fault ends the platform is the
model's choice (log entry 14). -/
def Obligations.CoresAreIndependent : Prop :=
  (∀ (k : Nat) (cores : List State),
    (cores.length ≤ k → platformStep k cores = .next cores) ∧
    ∀ s, cores[k]? = some s →
      (∀ t, step s = .next t → ∃ cs, platformStep k cores = .next cs ∧ cs.length = cores.length ∧ cs[k]? = some t ∧
        ∀ j, j ≠ k → cs[j]? = cores[j]?) ∧
      (∀ r, step s = .fault r → platformStep k cores = .fault r)) ∧
  ∀ (schedule : List Nat) (cores ends : List State), ends.length = cores.length →
    (∀ (k : Nat) (s t : State), cores[k]? = some s → ends[k]? = some t → Sys2Proof.core.run (schedule.count k) s = .next t) →
    platformRun schedule cores = .next ends

/-- R63's pseudo-command `FNEG fd, fa` leaves the negative of `fa` in `fd`, modulo `P`. -/
def Obligations.FnegExpansionNegates : Prop :=
  ∀ (s : State) (fd fa : Reg) (a : Nat), s.mode = .ready → fd ≠ fa → s.f[fa] = some a →
    ∃ cmds t, (Pseudo.fneg fd fa).expand = some cmds ∧ runWithDin cmds s = .next t ∧
      t.f[fd] = some ((-(a : Int)) % (s.p : Int)).toNat ∧ ∀ r, r ≠ fd → t.f[r] = s.f[r]
end

