-- ==== Sys2Proof/Laws/State.lean ====
section
/-! SUPPORT. One lemma per field per update of State: what each named write leaves in every field, true by rfl, so that
no proof unfolds a record update. -/

namespace Sys2Proof.Machine

/-! ### setReg -/

@[simp] theorem State.setReg_build (s : State) (r : Reg) (v : Nat) : (s.setReg r v).build = s.build := rfl
@[simp] theorem State.setReg_mode (s : State) (r : Reg) (v : Nat) : (s.setReg r v).mode = s.mode := rfl
@[simp] theorem State.setReg_fcause (s : State) (r : Reg) (v : Nat) : (s.setReg r v).fcause = s.fcause := rfl
@[simp] theorem State.setReg_p (s : State) (r : Reg) (v : Nat) : (s.setReg r v).p = s.p := rfl
@[simp] theorem State.setReg_m (s : State) (r : Reg) (v : Nat) : (s.setReg r v).m = s.m := rfl
@[simp] theorem State.setReg_n (s : State) (r : Reg) (v : Nat) : (s.setReg r v).n = s.n := rfl
@[simp] theorem State.setReg_alpha (s : State) (r : Reg) (v : Nat) : (s.setReg r v).alpha = s.alpha := rfl
@[simp] theorem State.setReg_ainv (s : State) (r : Reg) (v : Nat) : (s.setReg r v).ainv = s.ainv := rfl
@[simp] theorem State.setReg_rate (s : State) (r : Reg) (v : Nat) : (s.setReg r v).rate = s.rate := rfl
@[simp] theorem State.setReg_mdsBuf (s : State) (r : Reg) (v : Nat) : (s.setReg r v).mdsBuf = s.mdsBuf := rfl
@[simp] theorem State.setReg_rcBuf (s : State) (r : Reg) (v : Nat) : (s.setReg r v).rcBuf = s.rcBuf := rfl
@[simp] theorem State.setReg_mdsCnt (s : State) (r : Reg) (v : Nat) : (s.setReg r v).mdsCnt = s.mdsCnt := rfl
@[simp] theorem State.setReg_rcCnt (s : State) (r : Reg) (v : Nat) : (s.setReg r v).rcCnt = s.rcCnt := rfl
@[simp] theorem State.setReg_f (s : State) (r : Reg) (v : Nat) : (s.setReg r v).f = s.f.set r (some v) := rfl
@[simp] theorem State.setReg_sv (s : State) (r : Reg) (v : Nat) : (s.setReg r v).sv = s.sv := rfl
@[simp] theorem State.setReg_hrc (s : State) (r : Reg) (v : Nat) : (s.setReg r v).hrc = s.hrc := rfl
@[simp] theorem State.setReg_hopen (s : State) (r : Reg) (v : Nat) : (s.setReg r v).hopen = s.hopen := rfl
@[simp] theorem State.setReg_hany (s : State) (r : Reg) (v : Nat) : (s.setReg r v).hany = s.hany := rfl
@[simp] theorem State.setReg_abspos (s : State) (r : Reg) (v : Nat) : (s.setReg r v).abspos = s.abspos := rfl
@[simp] theorem State.setReg_dg (s : State) (r : Reg) (v : Nat) : (s.setReg r v).dg = s.dg := rfl
@[simp] theorem State.setReg_dvalid (s : State) (r : Reg) (v : Nat) : (s.setReg r v).dvalid = s.dvalid := rfl
@[simp] theorem State.setReg_din (s : State) (r : Reg) (v : Nat) : (s.setReg r v).din = s.din := rfl
@[simp] theorem State.setReg_inputs (s : State) (r : Reg) (v : Nat) : (s.setReg r v).inputs = s.inputs := rfl
@[simp] theorem State.setReg_responses (s : State) (r : Reg) (v : Nat) : (s.setReg r v).responses = s.responses := rfl
@[simp] theorem State.setReg_params (s : State) (r : Reg) (v : Nat) : (s.setReg r v).params = s.params := rfl

/-! ### setElem -/

@[simp] theorem State.setElem_build (s : State) (i v : Nat) : (s.setElem i v).build = s.build := rfl
@[simp] theorem State.setElem_mode (s : State) (i v : Nat) : (s.setElem i v).mode = s.mode := rfl
@[simp] theorem State.setElem_fcause (s : State) (i v : Nat) : (s.setElem i v).fcause = s.fcause := rfl
@[simp] theorem State.setElem_p (s : State) (i v : Nat) : (s.setElem i v).p = s.p := rfl
@[simp] theorem State.setElem_m (s : State) (i v : Nat) : (s.setElem i v).m = s.m := rfl
@[simp] theorem State.setElem_n (s : State) (i v : Nat) : (s.setElem i v).n = s.n := rfl
@[simp] theorem State.setElem_alpha (s : State) (i v : Nat) : (s.setElem i v).alpha = s.alpha := rfl
@[simp] theorem State.setElem_ainv (s : State) (i v : Nat) : (s.setElem i v).ainv = s.ainv := rfl
@[simp] theorem State.setElem_rate (s : State) (i v : Nat) : (s.setElem i v).rate = s.rate := rfl
@[simp] theorem State.setElem_mdsBuf (s : State) (i v : Nat) : (s.setElem i v).mdsBuf = s.mdsBuf := rfl
@[simp] theorem State.setElem_rcBuf (s : State) (i v : Nat) : (s.setElem i v).rcBuf = s.rcBuf := rfl
@[simp] theorem State.setElem_mdsCnt (s : State) (i v : Nat) : (s.setElem i v).mdsCnt = s.mdsCnt := rfl
@[simp] theorem State.setElem_rcCnt (s : State) (i v : Nat) : (s.setElem i v).rcCnt = s.rcCnt := rfl
@[simp] theorem State.setElem_f (s : State) (i v : Nat) : (s.setElem i v).f = s.f := rfl
@[simp] theorem State.setElem_sv (s : State) (i v : Nat) : (s.setElem i v).sv = s.sv.set i (some v) := rfl
@[simp] theorem State.setElem_hrc (s : State) (i v : Nat) : (s.setElem i v).hrc = s.hrc := rfl
@[simp] theorem State.setElem_hopen (s : State) (i v : Nat) : (s.setElem i v).hopen = s.hopen := rfl
@[simp] theorem State.setElem_hany (s : State) (i v : Nat) : (s.setElem i v).hany = s.hany := rfl
@[simp] theorem State.setElem_abspos (s : State) (i v : Nat) : (s.setElem i v).abspos = s.abspos := rfl
@[simp] theorem State.setElem_dg (s : State) (i v : Nat) : (s.setElem i v).dg = s.dg := rfl
@[simp] theorem State.setElem_dvalid (s : State) (i v : Nat) : (s.setElem i v).dvalid = s.dvalid := rfl
@[simp] theorem State.setElem_din (s : State) (i v : Nat) : (s.setElem i v).din = s.din := rfl
@[simp] theorem State.setElem_inputs (s : State) (i v : Nat) : (s.setElem i v).inputs = s.inputs := rfl
@[simp] theorem State.setElem_responses (s : State) (i v : Nat) : (s.setElem i v).responses = s.responses := rfl
@[simp] theorem State.setElem_params (s : State) (i v : Nat) : (s.setElem i v).params = s.params := rfl

/-! ### setVec -/

@[simp] theorem State.setVec_build (s : State) (t : List Nat) : (s.setVec t).build = s.build := rfl
@[simp] theorem State.setVec_mode (s : State) (t : List Nat) : (s.setVec t).mode = s.mode := rfl
@[simp] theorem State.setVec_fcause (s : State) (t : List Nat) : (s.setVec t).fcause = s.fcause := rfl
@[simp] theorem State.setVec_p (s : State) (t : List Nat) : (s.setVec t).p = s.p := rfl
@[simp] theorem State.setVec_m (s : State) (t : List Nat) : (s.setVec t).m = s.m := rfl
@[simp] theorem State.setVec_n (s : State) (t : List Nat) : (s.setVec t).n = s.n := rfl
@[simp] theorem State.setVec_alpha (s : State) (t : List Nat) : (s.setVec t).alpha = s.alpha := rfl
@[simp] theorem State.setVec_ainv (s : State) (t : List Nat) : (s.setVec t).ainv = s.ainv := rfl
@[simp] theorem State.setVec_rate (s : State) (t : List Nat) : (s.setVec t).rate = s.rate := rfl
@[simp] theorem State.setVec_mdsBuf (s : State) (t : List Nat) : (s.setVec t).mdsBuf = s.mdsBuf := rfl
@[simp] theorem State.setVec_rcBuf (s : State) (t : List Nat) : (s.setVec t).rcBuf = s.rcBuf := rfl
@[simp] theorem State.setVec_mdsCnt (s : State) (t : List Nat) : (s.setVec t).mdsCnt = s.mdsCnt := rfl
@[simp] theorem State.setVec_rcCnt (s : State) (t : List Nat) : (s.setVec t).rcCnt = s.rcCnt := rfl
@[simp] theorem State.setVec_f (s : State) (t : List Nat) : (s.setVec t).f = s.f := rfl
@[simp] theorem State.setVec_sv (s : State) (t : List Nat) : (s.setVec t).sv = t.map some ++ s.sv.drop t.length := rfl
@[simp] theorem State.setVec_hrc (s : State) (t : List Nat) : (s.setVec t).hrc = s.hrc := rfl
@[simp] theorem State.setVec_hopen (s : State) (t : List Nat) : (s.setVec t).hopen = s.hopen := rfl
@[simp] theorem State.setVec_hany (s : State) (t : List Nat) : (s.setVec t).hany = s.hany := rfl
@[simp] theorem State.setVec_abspos (s : State) (t : List Nat) : (s.setVec t).abspos = s.abspos := rfl
@[simp] theorem State.setVec_dg (s : State) (t : List Nat) : (s.setVec t).dg = s.dg := rfl
@[simp] theorem State.setVec_dvalid (s : State) (t : List Nat) : (s.setVec t).dvalid = s.dvalid := rfl
@[simp] theorem State.setVec_din (s : State) (t : List Nat) : (s.setVec t).din = s.din := rfl
@[simp] theorem State.setVec_inputs (s : State) (t : List Nat) : (s.setVec t).inputs = s.inputs := rfl
@[simp] theorem State.setVec_responses (s : State) (t : List Nat) : (s.setVec t).responses = s.responses := rfl
@[simp] theorem State.setVec_params (s : State) (t : List Nat) : (s.setVec t).params = s.params := rfl

/-! ### setHrc -/

@[simp] theorem State.setHrc_build (s : State) (h : Nat) : (s.setHrc h).build = s.build := rfl
@[simp] theorem State.setHrc_mode (s : State) (h : Nat) : (s.setHrc h).mode = s.mode := rfl
@[simp] theorem State.setHrc_fcause (s : State) (h : Nat) : (s.setHrc h).fcause = s.fcause := rfl
@[simp] theorem State.setHrc_p (s : State) (h : Nat) : (s.setHrc h).p = s.p := rfl
@[simp] theorem State.setHrc_m (s : State) (h : Nat) : (s.setHrc h).m = s.m := rfl
@[simp] theorem State.setHrc_n (s : State) (h : Nat) : (s.setHrc h).n = s.n := rfl
@[simp] theorem State.setHrc_alpha (s : State) (h : Nat) : (s.setHrc h).alpha = s.alpha := rfl
@[simp] theorem State.setHrc_ainv (s : State) (h : Nat) : (s.setHrc h).ainv = s.ainv := rfl
@[simp] theorem State.setHrc_rate (s : State) (h : Nat) : (s.setHrc h).rate = s.rate := rfl
@[simp] theorem State.setHrc_mdsBuf (s : State) (h : Nat) : (s.setHrc h).mdsBuf = s.mdsBuf := rfl
@[simp] theorem State.setHrc_rcBuf (s : State) (h : Nat) : (s.setHrc h).rcBuf = s.rcBuf := rfl
@[simp] theorem State.setHrc_mdsCnt (s : State) (h : Nat) : (s.setHrc h).mdsCnt = s.mdsCnt := rfl
@[simp] theorem State.setHrc_rcCnt (s : State) (h : Nat) : (s.setHrc h).rcCnt = s.rcCnt := rfl
@[simp] theorem State.setHrc_f (s : State) (h : Nat) : (s.setHrc h).f = s.f := rfl
@[simp] theorem State.setHrc_sv (s : State) (h : Nat) : (s.setHrc h).sv = s.sv := rfl
@[simp] theorem State.setHrc_hrc (s : State) (h : Nat) : (s.setHrc h).hrc = h := rfl
@[simp] theorem State.setHrc_hopen (s : State) (h : Nat) : (s.setHrc h).hopen = s.hopen := rfl
@[simp] theorem State.setHrc_hany (s : State) (h : Nat) : (s.setHrc h).hany = s.hany := rfl
@[simp] theorem State.setHrc_abspos (s : State) (h : Nat) : (s.setHrc h).abspos = s.abspos := rfl
@[simp] theorem State.setHrc_dg (s : State) (h : Nat) : (s.setHrc h).dg = s.dg := rfl
@[simp] theorem State.setHrc_dvalid (s : State) (h : Nat) : (s.setHrc h).dvalid = s.dvalid := rfl
@[simp] theorem State.setHrc_din (s : State) (h : Nat) : (s.setHrc h).din = s.din := rfl
@[simp] theorem State.setHrc_inputs (s : State) (h : Nat) : (s.setHrc h).inputs = s.inputs := rfl
@[simp] theorem State.setHrc_responses (s : State) (h : Nat) : (s.setHrc h).responses = s.responses := rfl
@[simp] theorem State.setHrc_params (s : State) (h : Nat) : (s.setHrc h).params = s.params := rfl

/-! ### setAbspos -/

@[simp] theorem State.setAbspos_build (s : State) (k : Nat) : (s.setAbspos k).build = s.build := rfl
@[simp] theorem State.setAbspos_mode (s : State) (k : Nat) : (s.setAbspos k).mode = s.mode := rfl
@[simp] theorem State.setAbspos_fcause (s : State) (k : Nat) : (s.setAbspos k).fcause = s.fcause := rfl
@[simp] theorem State.setAbspos_p (s : State) (k : Nat) : (s.setAbspos k).p = s.p := rfl
@[simp] theorem State.setAbspos_m (s : State) (k : Nat) : (s.setAbspos k).m = s.m := rfl
@[simp] theorem State.setAbspos_n (s : State) (k : Nat) : (s.setAbspos k).n = s.n := rfl
@[simp] theorem State.setAbspos_alpha (s : State) (k : Nat) : (s.setAbspos k).alpha = s.alpha := rfl
@[simp] theorem State.setAbspos_ainv (s : State) (k : Nat) : (s.setAbspos k).ainv = s.ainv := rfl
@[simp] theorem State.setAbspos_rate (s : State) (k : Nat) : (s.setAbspos k).rate = s.rate := rfl
@[simp] theorem State.setAbspos_mdsBuf (s : State) (k : Nat) : (s.setAbspos k).mdsBuf = s.mdsBuf := rfl
@[simp] theorem State.setAbspos_rcBuf (s : State) (k : Nat) : (s.setAbspos k).rcBuf = s.rcBuf := rfl
@[simp] theorem State.setAbspos_mdsCnt (s : State) (k : Nat) : (s.setAbspos k).mdsCnt = s.mdsCnt := rfl
@[simp] theorem State.setAbspos_rcCnt (s : State) (k : Nat) : (s.setAbspos k).rcCnt = s.rcCnt := rfl
@[simp] theorem State.setAbspos_f (s : State) (k : Nat) : (s.setAbspos k).f = s.f := rfl
@[simp] theorem State.setAbspos_sv (s : State) (k : Nat) : (s.setAbspos k).sv = s.sv := rfl
@[simp] theorem State.setAbspos_hrc (s : State) (k : Nat) : (s.setAbspos k).hrc = s.hrc := rfl
@[simp] theorem State.setAbspos_hopen (s : State) (k : Nat) : (s.setAbspos k).hopen = s.hopen := rfl
@[simp] theorem State.setAbspos_hany (s : State) (k : Nat) : (s.setAbspos k).hany = s.hany := rfl
@[simp] theorem State.setAbspos_abspos (s : State) (k : Nat) : (s.setAbspos k).abspos = k := rfl
@[simp] theorem State.setAbspos_dg (s : State) (k : Nat) : (s.setAbspos k).dg = s.dg := rfl
@[simp] theorem State.setAbspos_dvalid (s : State) (k : Nat) : (s.setAbspos k).dvalid = s.dvalid := rfl
@[simp] theorem State.setAbspos_din (s : State) (k : Nat) : (s.setAbspos k).din = s.din := rfl
@[simp] theorem State.setAbspos_inputs (s : State) (k : Nat) : (s.setAbspos k).inputs = s.inputs := rfl
@[simp] theorem State.setAbspos_responses (s : State) (k : Nat) : (s.setAbspos k).responses = s.responses := rfl
@[simp] theorem State.setAbspos_params (s : State) (k : Nat) : (s.setAbspos k).params = s.params := rfl

/-! ### setHany -/

@[simp] theorem State.setHany_build (s : State) (b : Bool) : (s.setHany b).build = s.build := rfl
@[simp] theorem State.setHany_mode (s : State) (b : Bool) : (s.setHany b).mode = s.mode := rfl
@[simp] theorem State.setHany_fcause (s : State) (b : Bool) : (s.setHany b).fcause = s.fcause := rfl
@[simp] theorem State.setHany_p (s : State) (b : Bool) : (s.setHany b).p = s.p := rfl
@[simp] theorem State.setHany_m (s : State) (b : Bool) : (s.setHany b).m = s.m := rfl
@[simp] theorem State.setHany_n (s : State) (b : Bool) : (s.setHany b).n = s.n := rfl
@[simp] theorem State.setHany_alpha (s : State) (b : Bool) : (s.setHany b).alpha = s.alpha := rfl
@[simp] theorem State.setHany_ainv (s : State) (b : Bool) : (s.setHany b).ainv = s.ainv := rfl
@[simp] theorem State.setHany_rate (s : State) (b : Bool) : (s.setHany b).rate = s.rate := rfl
@[simp] theorem State.setHany_mdsBuf (s : State) (b : Bool) : (s.setHany b).mdsBuf = s.mdsBuf := rfl
@[simp] theorem State.setHany_rcBuf (s : State) (b : Bool) : (s.setHany b).rcBuf = s.rcBuf := rfl
@[simp] theorem State.setHany_mdsCnt (s : State) (b : Bool) : (s.setHany b).mdsCnt = s.mdsCnt := rfl
@[simp] theorem State.setHany_rcCnt (s : State) (b : Bool) : (s.setHany b).rcCnt = s.rcCnt := rfl
@[simp] theorem State.setHany_f (s : State) (b : Bool) : (s.setHany b).f = s.f := rfl
@[simp] theorem State.setHany_sv (s : State) (b : Bool) : (s.setHany b).sv = s.sv := rfl
@[simp] theorem State.setHany_hrc (s : State) (b : Bool) : (s.setHany b).hrc = s.hrc := rfl
@[simp] theorem State.setHany_hopen (s : State) (b : Bool) : (s.setHany b).hopen = s.hopen := rfl
@[simp] theorem State.setHany_hany (s : State) (b : Bool) : (s.setHany b).hany = b := rfl
@[simp] theorem State.setHany_abspos (s : State) (b : Bool) : (s.setHany b).abspos = s.abspos := rfl
@[simp] theorem State.setHany_dg (s : State) (b : Bool) : (s.setHany b).dg = s.dg := rfl
@[simp] theorem State.setHany_dvalid (s : State) (b : Bool) : (s.setHany b).dvalid = s.dvalid := rfl
@[simp] theorem State.setHany_din (s : State) (b : Bool) : (s.setHany b).din = s.din := rfl
@[simp] theorem State.setHany_inputs (s : State) (b : Bool) : (s.setHany b).inputs = s.inputs := rfl
@[simp] theorem State.setHany_responses (s : State) (b : Bool) : (s.setHany b).responses = s.responses := rfl
@[simp] theorem State.setHany_params (s : State) (b : Bool) : (s.setHany b).params = s.params := rfl

/-! ### setHopen -/

@[simp] theorem State.setHopen_build (s : State) (b : Bool) : (s.setHopen b).build = s.build := rfl
@[simp] theorem State.setHopen_mode (s : State) (b : Bool) : (s.setHopen b).mode = s.mode := rfl
@[simp] theorem State.setHopen_fcause (s : State) (b : Bool) : (s.setHopen b).fcause = s.fcause := rfl
@[simp] theorem State.setHopen_p (s : State) (b : Bool) : (s.setHopen b).p = s.p := rfl
@[simp] theorem State.setHopen_m (s : State) (b : Bool) : (s.setHopen b).m = s.m := rfl
@[simp] theorem State.setHopen_n (s : State) (b : Bool) : (s.setHopen b).n = s.n := rfl
@[simp] theorem State.setHopen_alpha (s : State) (b : Bool) : (s.setHopen b).alpha = s.alpha := rfl
@[simp] theorem State.setHopen_ainv (s : State) (b : Bool) : (s.setHopen b).ainv = s.ainv := rfl
@[simp] theorem State.setHopen_rate (s : State) (b : Bool) : (s.setHopen b).rate = s.rate := rfl
@[simp] theorem State.setHopen_mdsBuf (s : State) (b : Bool) : (s.setHopen b).mdsBuf = s.mdsBuf := rfl
@[simp] theorem State.setHopen_rcBuf (s : State) (b : Bool) : (s.setHopen b).rcBuf = s.rcBuf := rfl
@[simp] theorem State.setHopen_mdsCnt (s : State) (b : Bool) : (s.setHopen b).mdsCnt = s.mdsCnt := rfl
@[simp] theorem State.setHopen_rcCnt (s : State) (b : Bool) : (s.setHopen b).rcCnt = s.rcCnt := rfl
@[simp] theorem State.setHopen_f (s : State) (b : Bool) : (s.setHopen b).f = s.f := rfl
@[simp] theorem State.setHopen_sv (s : State) (b : Bool) : (s.setHopen b).sv = s.sv := rfl
@[simp] theorem State.setHopen_hrc (s : State) (b : Bool) : (s.setHopen b).hrc = s.hrc := rfl
@[simp] theorem State.setHopen_hopen (s : State) (b : Bool) : (s.setHopen b).hopen = b := rfl
@[simp] theorem State.setHopen_hany (s : State) (b : Bool) : (s.setHopen b).hany = s.hany := rfl
@[simp] theorem State.setHopen_abspos (s : State) (b : Bool) : (s.setHopen b).abspos = s.abspos := rfl
@[simp] theorem State.setHopen_dg (s : State) (b : Bool) : (s.setHopen b).dg = s.dg := rfl
@[simp] theorem State.setHopen_dvalid (s : State) (b : Bool) : (s.setHopen b).dvalid = s.dvalid := rfl
@[simp] theorem State.setHopen_din (s : State) (b : Bool) : (s.setHopen b).din = s.din := rfl
@[simp] theorem State.setHopen_inputs (s : State) (b : Bool) : (s.setHopen b).inputs = s.inputs := rfl
@[simp] theorem State.setHopen_responses (s : State) (b : Bool) : (s.setHopen b).responses = s.responses := rfl
@[simp] theorem State.setHopen_params (s : State) (b : Bool) : (s.setHopen b).params = s.params := rfl

/-! ### setDvalid -/

@[simp] theorem State.setDvalid_build (s : State) (b : Bool) : (s.setDvalid b).build = s.build := rfl
@[simp] theorem State.setDvalid_mode (s : State) (b : Bool) : (s.setDvalid b).mode = s.mode := rfl
@[simp] theorem State.setDvalid_fcause (s : State) (b : Bool) : (s.setDvalid b).fcause = s.fcause := rfl
@[simp] theorem State.setDvalid_p (s : State) (b : Bool) : (s.setDvalid b).p = s.p := rfl
@[simp] theorem State.setDvalid_m (s : State) (b : Bool) : (s.setDvalid b).m = s.m := rfl
@[simp] theorem State.setDvalid_n (s : State) (b : Bool) : (s.setDvalid b).n = s.n := rfl
@[simp] theorem State.setDvalid_alpha (s : State) (b : Bool) : (s.setDvalid b).alpha = s.alpha := rfl
@[simp] theorem State.setDvalid_ainv (s : State) (b : Bool) : (s.setDvalid b).ainv = s.ainv := rfl
@[simp] theorem State.setDvalid_rate (s : State) (b : Bool) : (s.setDvalid b).rate = s.rate := rfl
@[simp] theorem State.setDvalid_mdsBuf (s : State) (b : Bool) : (s.setDvalid b).mdsBuf = s.mdsBuf := rfl
@[simp] theorem State.setDvalid_rcBuf (s : State) (b : Bool) : (s.setDvalid b).rcBuf = s.rcBuf := rfl
@[simp] theorem State.setDvalid_mdsCnt (s : State) (b : Bool) : (s.setDvalid b).mdsCnt = s.mdsCnt := rfl
@[simp] theorem State.setDvalid_rcCnt (s : State) (b : Bool) : (s.setDvalid b).rcCnt = s.rcCnt := rfl
@[simp] theorem State.setDvalid_f (s : State) (b : Bool) : (s.setDvalid b).f = s.f := rfl
@[simp] theorem State.setDvalid_sv (s : State) (b : Bool) : (s.setDvalid b).sv = s.sv := rfl
@[simp] theorem State.setDvalid_hrc (s : State) (b : Bool) : (s.setDvalid b).hrc = s.hrc := rfl
@[simp] theorem State.setDvalid_hopen (s : State) (b : Bool) : (s.setDvalid b).hopen = s.hopen := rfl
@[simp] theorem State.setDvalid_hany (s : State) (b : Bool) : (s.setDvalid b).hany = s.hany := rfl
@[simp] theorem State.setDvalid_abspos (s : State) (b : Bool) : (s.setDvalid b).abspos = s.abspos := rfl
@[simp] theorem State.setDvalid_dg (s : State) (b : Bool) : (s.setDvalid b).dg = s.dg := rfl
@[simp] theorem State.setDvalid_dvalid (s : State) (b : Bool) : (s.setDvalid b).dvalid = b := rfl
@[simp] theorem State.setDvalid_din (s : State) (b : Bool) : (s.setDvalid b).din = s.din := rfl
@[simp] theorem State.setDvalid_inputs (s : State) (b : Bool) : (s.setDvalid b).inputs = s.inputs := rfl
@[simp] theorem State.setDvalid_responses (s : State) (b : Bool) : (s.setDvalid b).responses = s.responses := rfl
@[simp] theorem State.setDvalid_params (s : State) (b : Bool) : (s.setDvalid b).params = s.params := rfl

/-! ### setDigest -/

@[simp] theorem State.setDigest_build (s : State) (a b c d : Nat) : (s.setDigest a b c d).build = s.build := rfl
@[simp] theorem State.setDigest_mode (s : State) (a b c d : Nat) : (s.setDigest a b c d).mode = s.mode := rfl
@[simp] theorem State.setDigest_fcause (s : State) (a b c d : Nat) : (s.setDigest a b c d).fcause = s.fcause := rfl
@[simp] theorem State.setDigest_p (s : State) (a b c d : Nat) : (s.setDigest a b c d).p = s.p := rfl
@[simp] theorem State.setDigest_m (s : State) (a b c d : Nat) : (s.setDigest a b c d).m = s.m := rfl
@[simp] theorem State.setDigest_n (s : State) (a b c d : Nat) : (s.setDigest a b c d).n = s.n := rfl
@[simp] theorem State.setDigest_alpha (s : State) (a b c d : Nat) : (s.setDigest a b c d).alpha = s.alpha := rfl
@[simp] theorem State.setDigest_ainv (s : State) (a b c d : Nat) : (s.setDigest a b c d).ainv = s.ainv := rfl
@[simp] theorem State.setDigest_rate (s : State) (a b c d : Nat) : (s.setDigest a b c d).rate = s.rate := rfl
@[simp] theorem State.setDigest_mdsBuf (s : State) (a b c d : Nat) : (s.setDigest a b c d).mdsBuf = s.mdsBuf := rfl
@[simp] theorem State.setDigest_rcBuf (s : State) (a b c d : Nat) : (s.setDigest a b c d).rcBuf = s.rcBuf := rfl
@[simp] theorem State.setDigest_mdsCnt (s : State) (a b c d : Nat) : (s.setDigest a b c d).mdsCnt = s.mdsCnt := rfl
@[simp] theorem State.setDigest_rcCnt (s : State) (a b c d : Nat) : (s.setDigest a b c d).rcCnt = s.rcCnt := rfl
@[simp] theorem State.setDigest_f (s : State) (a b c d : Nat) : (s.setDigest a b c d).f = s.f := rfl
@[simp] theorem State.setDigest_sv (s : State) (a b c d : Nat) : (s.setDigest a b c d).sv = s.sv := rfl
@[simp] theorem State.setDigest_hrc (s : State) (a b c d : Nat) : (s.setDigest a b c d).hrc = s.hrc := rfl
@[simp] theorem State.setDigest_hopen (s : State) (a b c d : Nat) : (s.setDigest a b c d).hopen = s.hopen := rfl
@[simp] theorem State.setDigest_hany (s : State) (a b c d : Nat) : (s.setDigest a b c d).hany = s.hany := rfl
@[simp] theorem State.setDigest_abspos (s : State) (a b c d : Nat) : (s.setDigest a b c d).abspos = s.abspos := rfl
@[simp] theorem State.setDigest_dg (s : State) (a b c d : Nat) : (s.setDigest a b c d).dg = #v[a, b, c, d] := rfl
@[simp] theorem State.setDigest_dvalid (s : State) (a b c d : Nat) : (s.setDigest a b c d).dvalid = s.dvalid := rfl
@[simp] theorem State.setDigest_din (s : State) (a b c d : Nat) : (s.setDigest a b c d).din = s.din := rfl
@[simp] theorem State.setDigest_inputs (s : State) (a b c d : Nat) : (s.setDigest a b c d).inputs = s.inputs := rfl
@[simp] theorem State.setDigest_responses (s : State) (a b c d : Nat) : (s.setDigest a b c d).responses = s.responses := rfl
@[simp] theorem State.setDigest_params (s : State) (a b c d : Nat) : (s.setDigest a b c d).params = s.params := rfl

/-! ### setMds -/

@[simp] theorem State.setMds_build (s : State) (buf : List Nat) (cnt : Nat) : (s.setMds buf cnt).build = s.build := rfl
@[simp] theorem State.setMds_mode (s : State) (buf : List Nat) (cnt : Nat) : (s.setMds buf cnt).mode = s.mode := rfl
@[simp] theorem State.setMds_fcause (s : State) (buf : List Nat) (cnt : Nat) : (s.setMds buf cnt).fcause = s.fcause := rfl
@[simp] theorem State.setMds_p (s : State) (buf : List Nat) (cnt : Nat) : (s.setMds buf cnt).p = s.p := rfl
@[simp] theorem State.setMds_m (s : State) (buf : List Nat) (cnt : Nat) : (s.setMds buf cnt).m = s.m := rfl
@[simp] theorem State.setMds_n (s : State) (buf : List Nat) (cnt : Nat) : (s.setMds buf cnt).n = s.n := rfl
@[simp] theorem State.setMds_alpha (s : State) (buf : List Nat) (cnt : Nat) : (s.setMds buf cnt).alpha = s.alpha := rfl
@[simp] theorem State.setMds_ainv (s : State) (buf : List Nat) (cnt : Nat) : (s.setMds buf cnt).ainv = s.ainv := rfl
@[simp] theorem State.setMds_rate (s : State) (buf : List Nat) (cnt : Nat) : (s.setMds buf cnt).rate = s.rate := rfl
@[simp] theorem State.setMds_mdsBuf (s : State) (buf : List Nat) (cnt : Nat) : (s.setMds buf cnt).mdsBuf = buf := rfl
@[simp] theorem State.setMds_rcBuf (s : State) (buf : List Nat) (cnt : Nat) : (s.setMds buf cnt).rcBuf = s.rcBuf := rfl
@[simp] theorem State.setMds_mdsCnt (s : State) (buf : List Nat) (cnt : Nat) : (s.setMds buf cnt).mdsCnt = cnt := rfl
@[simp] theorem State.setMds_rcCnt (s : State) (buf : List Nat) (cnt : Nat) : (s.setMds buf cnt).rcCnt = s.rcCnt := rfl
@[simp] theorem State.setMds_f (s : State) (buf : List Nat) (cnt : Nat) : (s.setMds buf cnt).f = s.f := rfl
@[simp] theorem State.setMds_sv (s : State) (buf : List Nat) (cnt : Nat) : (s.setMds buf cnt).sv = s.sv := rfl
@[simp] theorem State.setMds_hrc (s : State) (buf : List Nat) (cnt : Nat) : (s.setMds buf cnt).hrc = s.hrc := rfl
@[simp] theorem State.setMds_hopen (s : State) (buf : List Nat) (cnt : Nat) : (s.setMds buf cnt).hopen = s.hopen := rfl
@[simp] theorem State.setMds_hany (s : State) (buf : List Nat) (cnt : Nat) : (s.setMds buf cnt).hany = s.hany := rfl
@[simp] theorem State.setMds_abspos (s : State) (buf : List Nat) (cnt : Nat) : (s.setMds buf cnt).abspos = s.abspos := rfl
@[simp] theorem State.setMds_dg (s : State) (buf : List Nat) (cnt : Nat) : (s.setMds buf cnt).dg = s.dg := rfl
@[simp] theorem State.setMds_dvalid (s : State) (buf : List Nat) (cnt : Nat) : (s.setMds buf cnt).dvalid = s.dvalid := rfl
@[simp] theorem State.setMds_din (s : State) (buf : List Nat) (cnt : Nat) : (s.setMds buf cnt).din = s.din := rfl
@[simp] theorem State.setMds_inputs (s : State) (buf : List Nat) (cnt : Nat) : (s.setMds buf cnt).inputs = s.inputs := rfl
@[simp] theorem State.setMds_responses (s : State) (buf : List Nat) (cnt : Nat) : (s.setMds buf cnt).responses = s.responses := rfl

/-! ### setRc -/

@[simp] theorem State.setRc_build (s : State) (buf : List Nat) (cnt : Nat) : (s.setRc buf cnt).build = s.build := rfl
@[simp] theorem State.setRc_mode (s : State) (buf : List Nat) (cnt : Nat) : (s.setRc buf cnt).mode = s.mode := rfl
@[simp] theorem State.setRc_fcause (s : State) (buf : List Nat) (cnt : Nat) : (s.setRc buf cnt).fcause = s.fcause := rfl
@[simp] theorem State.setRc_p (s : State) (buf : List Nat) (cnt : Nat) : (s.setRc buf cnt).p = s.p := rfl
@[simp] theorem State.setRc_m (s : State) (buf : List Nat) (cnt : Nat) : (s.setRc buf cnt).m = s.m := rfl
@[simp] theorem State.setRc_n (s : State) (buf : List Nat) (cnt : Nat) : (s.setRc buf cnt).n = s.n := rfl
@[simp] theorem State.setRc_alpha (s : State) (buf : List Nat) (cnt : Nat) : (s.setRc buf cnt).alpha = s.alpha := rfl
@[simp] theorem State.setRc_ainv (s : State) (buf : List Nat) (cnt : Nat) : (s.setRc buf cnt).ainv = s.ainv := rfl
@[simp] theorem State.setRc_rate (s : State) (buf : List Nat) (cnt : Nat) : (s.setRc buf cnt).rate = s.rate := rfl
@[simp] theorem State.setRc_mdsBuf (s : State) (buf : List Nat) (cnt : Nat) : (s.setRc buf cnt).mdsBuf = s.mdsBuf := rfl
@[simp] theorem State.setRc_rcBuf (s : State) (buf : List Nat) (cnt : Nat) : (s.setRc buf cnt).rcBuf = buf := rfl
@[simp] theorem State.setRc_mdsCnt (s : State) (buf : List Nat) (cnt : Nat) : (s.setRc buf cnt).mdsCnt = s.mdsCnt := rfl
@[simp] theorem State.setRc_rcCnt (s : State) (buf : List Nat) (cnt : Nat) : (s.setRc buf cnt).rcCnt = cnt := rfl
@[simp] theorem State.setRc_f (s : State) (buf : List Nat) (cnt : Nat) : (s.setRc buf cnt).f = s.f := rfl
@[simp] theorem State.setRc_sv (s : State) (buf : List Nat) (cnt : Nat) : (s.setRc buf cnt).sv = s.sv := rfl
@[simp] theorem State.setRc_hrc (s : State) (buf : List Nat) (cnt : Nat) : (s.setRc buf cnt).hrc = s.hrc := rfl
@[simp] theorem State.setRc_hopen (s : State) (buf : List Nat) (cnt : Nat) : (s.setRc buf cnt).hopen = s.hopen := rfl
@[simp] theorem State.setRc_hany (s : State) (buf : List Nat) (cnt : Nat) : (s.setRc buf cnt).hany = s.hany := rfl
@[simp] theorem State.setRc_abspos (s : State) (buf : List Nat) (cnt : Nat) : (s.setRc buf cnt).abspos = s.abspos := rfl
@[simp] theorem State.setRc_dg (s : State) (buf : List Nat) (cnt : Nat) : (s.setRc buf cnt).dg = s.dg := rfl
@[simp] theorem State.setRc_dvalid (s : State) (buf : List Nat) (cnt : Nat) : (s.setRc buf cnt).dvalid = s.dvalid := rfl
@[simp] theorem State.setRc_din (s : State) (buf : List Nat) (cnt : Nat) : (s.setRc buf cnt).din = s.din := rfl
@[simp] theorem State.setRc_inputs (s : State) (buf : List Nat) (cnt : Nat) : (s.setRc buf cnt).inputs = s.inputs := rfl
@[simp] theorem State.setRc_responses (s : State) (buf : List Nat) (cnt : Nat) : (s.setRc buf cnt).responses = s.responses := rfl

/-! ### setMode -/

@[simp] theorem State.setMode_build (s : State) (m : Mode) : (s.setMode m).build = s.build := rfl
@[simp] theorem State.setMode_mode (s : State) (m : Mode) : (s.setMode m).mode = m := rfl
@[simp] theorem State.setMode_fcause (s : State) (m : Mode) : (s.setMode m).fcause = s.fcause := rfl
@[simp] theorem State.setMode_p (s : State) (m : Mode) : (s.setMode m).p = s.p := rfl
@[simp] theorem State.setMode_m (s : State) (m : Mode) : (s.setMode m).m = s.m := rfl
@[simp] theorem State.setMode_n (s : State) (m : Mode) : (s.setMode m).n = s.n := rfl
@[simp] theorem State.setMode_alpha (s : State) (m : Mode) : (s.setMode m).alpha = s.alpha := rfl
@[simp] theorem State.setMode_ainv (s : State) (m : Mode) : (s.setMode m).ainv = s.ainv := rfl
@[simp] theorem State.setMode_rate (s : State) (m : Mode) : (s.setMode m).rate = s.rate := rfl
@[simp] theorem State.setMode_mdsBuf (s : State) (m : Mode) : (s.setMode m).mdsBuf = s.mdsBuf := rfl
@[simp] theorem State.setMode_rcBuf (s : State) (m : Mode) : (s.setMode m).rcBuf = s.rcBuf := rfl
@[simp] theorem State.setMode_mdsCnt (s : State) (m : Mode) : (s.setMode m).mdsCnt = s.mdsCnt := rfl
@[simp] theorem State.setMode_rcCnt (s : State) (m : Mode) : (s.setMode m).rcCnt = s.rcCnt := rfl
@[simp] theorem State.setMode_f (s : State) (m : Mode) : (s.setMode m).f = s.f := rfl
@[simp] theorem State.setMode_sv (s : State) (m : Mode) : (s.setMode m).sv = s.sv := rfl
@[simp] theorem State.setMode_hrc (s : State) (m : Mode) : (s.setMode m).hrc = s.hrc := rfl
@[simp] theorem State.setMode_hopen (s : State) (m : Mode) : (s.setMode m).hopen = s.hopen := rfl
@[simp] theorem State.setMode_hany (s : State) (m : Mode) : (s.setMode m).hany = s.hany := rfl
@[simp] theorem State.setMode_abspos (s : State) (m : Mode) : (s.setMode m).abspos = s.abspos := rfl
@[simp] theorem State.setMode_dg (s : State) (m : Mode) : (s.setMode m).dg = s.dg := rfl
@[simp] theorem State.setMode_dvalid (s : State) (m : Mode) : (s.setMode m).dvalid = s.dvalid := rfl
@[simp] theorem State.setMode_din (s : State) (m : Mode) : (s.setMode m).din = s.din := rfl
@[simp] theorem State.setMode_inputs (s : State) (m : Mode) : (s.setMode m).inputs = s.inputs := rfl
@[simp] theorem State.setMode_responses (s : State) (m : Mode) : (s.setMode m).responses = s.responses := rfl
@[simp] theorem State.setMode_params (s : State) (m : Mode) : (s.setMode m).params = s.params := rfl

/-! ### respond -/

@[simp] theorem State.respond_build (s : State) (st : Status) (v : Nat) : (s.respond st v).build = s.build := rfl
@[simp] theorem State.respond_mode (s : State) (st : Status) (v : Nat) : (s.respond st v).mode = s.mode := rfl
@[simp] theorem State.respond_fcause (s : State) (st : Status) (v : Nat) : (s.respond st v).fcause = s.fcause := rfl
@[simp] theorem State.respond_p (s : State) (st : Status) (v : Nat) : (s.respond st v).p = s.p := rfl
@[simp] theorem State.respond_m (s : State) (st : Status) (v : Nat) : (s.respond st v).m = s.m := rfl
@[simp] theorem State.respond_n (s : State) (st : Status) (v : Nat) : (s.respond st v).n = s.n := rfl
@[simp] theorem State.respond_alpha (s : State) (st : Status) (v : Nat) : (s.respond st v).alpha = s.alpha := rfl
@[simp] theorem State.respond_ainv (s : State) (st : Status) (v : Nat) : (s.respond st v).ainv = s.ainv := rfl
@[simp] theorem State.respond_rate (s : State) (st : Status) (v : Nat) : (s.respond st v).rate = s.rate := rfl
@[simp] theorem State.respond_mdsBuf (s : State) (st : Status) (v : Nat) : (s.respond st v).mdsBuf = s.mdsBuf := rfl
@[simp] theorem State.respond_rcBuf (s : State) (st : Status) (v : Nat) : (s.respond st v).rcBuf = s.rcBuf := rfl
@[simp] theorem State.respond_mdsCnt (s : State) (st : Status) (v : Nat) : (s.respond st v).mdsCnt = s.mdsCnt := rfl
@[simp] theorem State.respond_rcCnt (s : State) (st : Status) (v : Nat) : (s.respond st v).rcCnt = s.rcCnt := rfl
@[simp] theorem State.respond_f (s : State) (st : Status) (v : Nat) : (s.respond st v).f = s.f := rfl
@[simp] theorem State.respond_sv (s : State) (st : Status) (v : Nat) : (s.respond st v).sv = s.sv := rfl
@[simp] theorem State.respond_hrc (s : State) (st : Status) (v : Nat) : (s.respond st v).hrc = s.hrc := rfl
@[simp] theorem State.respond_hopen (s : State) (st : Status) (v : Nat) : (s.respond st v).hopen = s.hopen := rfl
@[simp] theorem State.respond_hany (s : State) (st : Status) (v : Nat) : (s.respond st v).hany = s.hany := rfl
@[simp] theorem State.respond_abspos (s : State) (st : Status) (v : Nat) : (s.respond st v).abspos = s.abspos := rfl
@[simp] theorem State.respond_dg (s : State) (st : Status) (v : Nat) : (s.respond st v).dg = s.dg := rfl
@[simp] theorem State.respond_dvalid (s : State) (st : Status) (v : Nat) : (s.respond st v).dvalid = s.dvalid := rfl
@[simp] theorem State.respond_din (s : State) (st : Status) (v : Nat) : (s.respond st v).din = s.din := rfl
@[simp] theorem State.respond_inputs (s : State) (st : Status) (v : Nat) : (s.respond st v).inputs = s.inputs := rfl
@[simp] theorem State.respond_responses (s : State) (st : Status) (v : Nat) : (s.respond st v).responses = s.responses ++ [Response.mk st v] := rfl
@[simp] theorem State.respond_params (s : State) (st : Status) (v : Nat) : (s.respond st v).params = s.params := rfl

/-! ### present -/

@[simp] theorem State.present_build (s : State) (d : Nat) (rest : List HostInput) : (s.present d rest).build = s.build := rfl
@[simp] theorem State.present_mode (s : State) (d : Nat) (rest : List HostInput) : (s.present d rest).mode = s.mode := rfl
@[simp] theorem State.present_fcause (s : State) (d : Nat) (rest : List HostInput) : (s.present d rest).fcause = s.fcause := rfl
@[simp] theorem State.present_p (s : State) (d : Nat) (rest : List HostInput) : (s.present d rest).p = s.p := rfl
@[simp] theorem State.present_m (s : State) (d : Nat) (rest : List HostInput) : (s.present d rest).m = s.m := rfl
@[simp] theorem State.present_n (s : State) (d : Nat) (rest : List HostInput) : (s.present d rest).n = s.n := rfl
@[simp] theorem State.present_alpha (s : State) (d : Nat) (rest : List HostInput) : (s.present d rest).alpha = s.alpha := rfl
@[simp] theorem State.present_ainv (s : State) (d : Nat) (rest : List HostInput) : (s.present d rest).ainv = s.ainv := rfl
@[simp] theorem State.present_rate (s : State) (d : Nat) (rest : List HostInput) : (s.present d rest).rate = s.rate := rfl
@[simp] theorem State.present_mdsBuf (s : State) (d : Nat) (rest : List HostInput) : (s.present d rest).mdsBuf = s.mdsBuf := rfl
@[simp] theorem State.present_rcBuf (s : State) (d : Nat) (rest : List HostInput) : (s.present d rest).rcBuf = s.rcBuf := rfl
@[simp] theorem State.present_mdsCnt (s : State) (d : Nat) (rest : List HostInput) : (s.present d rest).mdsCnt = s.mdsCnt := rfl
@[simp] theorem State.present_rcCnt (s : State) (d : Nat) (rest : List HostInput) : (s.present d rest).rcCnt = s.rcCnt := rfl
@[simp] theorem State.present_f (s : State) (d : Nat) (rest : List HostInput) : (s.present d rest).f = s.f := rfl
@[simp] theorem State.present_sv (s : State) (d : Nat) (rest : List HostInput) : (s.present d rest).sv = s.sv := rfl
@[simp] theorem State.present_hrc (s : State) (d : Nat) (rest : List HostInput) : (s.present d rest).hrc = s.hrc := rfl
@[simp] theorem State.present_hopen (s : State) (d : Nat) (rest : List HostInput) : (s.present d rest).hopen = s.hopen := rfl
@[simp] theorem State.present_hany (s : State) (d : Nat) (rest : List HostInput) : (s.present d rest).hany = s.hany := rfl
@[simp] theorem State.present_abspos (s : State) (d : Nat) (rest : List HostInput) : (s.present d rest).abspos = s.abspos := rfl
@[simp] theorem State.present_dg (s : State) (d : Nat) (rest : List HostInput) : (s.present d rest).dg = s.dg := rfl
@[simp] theorem State.present_dvalid (s : State) (d : Nat) (rest : List HostInput) : (s.present d rest).dvalid = s.dvalid := rfl
@[simp] theorem State.present_din (s : State) (d : Nat) (rest : List HostInput) : (s.present d rest).din = d := rfl
@[simp] theorem State.present_inputs (s : State) (d : Nat) (rest : List HostInput) : (s.present d rest).inputs = rest := rfl
@[simp] theorem State.present_responses (s : State) (d : Nat) (rest : List HostInput) : (s.present d rest).responses = s.responses := rfl
@[simp] theorem State.present_params (s : State) (d : Nat) (rest : List HostInput) : (s.present d rest).params = s.params := rfl

/-! ### The view of the parameter store -/

@[simp] theorem State.params_p (s : State) : s.params.p = s.p := rfl
@[simp] theorem State.params_m (s : State) : s.params.m = s.m := rfl
@[simp] theorem State.params_n (s : State) : s.params.n = s.n := rfl
@[simp] theorem State.params_alpha (s : State) : s.params.alpha = s.alpha := rfl
@[simp] theorem State.params_ainv (s : State) : s.params.ainv = s.ainv := rfl
@[simp] theorem State.params_rate (s : State) : s.params.rate = s.rate := rfl
@[simp] theorem State.params_mds (s : State) : s.params.mds = s.mdsBuf := rfl
@[simp] theorem State.params_rc (s : State) : s.params.rc = s.rcBuf := rfl

end Sys2Proof.Machine
end

