-- ==== Sys2Proof/Laws/Ops.lean ====
section
/-! SUPPORT. For each shared operation, one lemma that says once everything it can do: what it answered, and what that
means for the state. The meanings are compositions of these, so a proof about one cites these lemmas and unfolds nothing
below the meaning itself. -/

namespace Sys2Proof.Machine

/-! ### Errors and the mode check -/

theorem State.enterError_of_not_fatal (s : State) {e : Status} (h : e.isFatal = false) : s.enterError e = s := by
  simp [State.enterError, h]

/-- Raising a non-fatal error only answers it (R127). -/
theorem State.raise_of_not_fatal (s : State) {e : Status} (h : e.isFatal = false) : s.raise e = s.respond e 0 := by
  simp [State.raise, s.enterError_of_not_fatal h]

/-- Raising `E_PARAM` moves to `FATAL` with `FCAUSE = 9` and answers it (R129). -/
theorem State.raise_param (s : State) :
    s.raise .param = ({ s with mode := .fatal, fcause := 9 } : State).respond .param 0 := rfl

/-- The mode check raises no fatal error. -/
theorem modeError_not_fatal {need : Need} {m : Mode} {e : Status} (h : modeError need m = some e) :
    e.isFatal = false := by
  cases need <;> cases m <;> simp [modeError] at h <;> subst h <;> rfl

/-- R143: when a command's mode requirement is met. -/
theorem modeError_eq_none {need : Need} {m : Mode} :
    modeError need m = none ↔
      need = .any ∨ (need = .ready ∧ m = .ready) ∨ (need = .unconf ∧ m = .unconf) ∨
        (need = .unconfOrReady ∧ m ≠ .fatal) := by
  cases need <;> cases m <;> simp [modeError]

theorem inMode_of_allowed {need : Need} {s : State} {rule : State → Result} (h : modeError need s.mode = none) :
    inMode need s rule = rule s := by
  simp [inMode, h]

/-- Everything the mode check can answer: the error of the mode, or what the command's own rule answers. -/
theorem inMode_next {need : Need} {s t : State} {rule : State → Result} (h : inMode need s rule = .next t) :
    (∃ e, modeError need s.mode = some e ∧ t = s.respond e 0) ∨
      (modeError need s.mode = none ∧ rule s = .next t) := by
  unfold inMode at h
  split at h
  · next e he =>
    left
    refine ⟨e, he, ?_⟩
    rw [← s.raise_of_not_fatal (modeError_not_fatal he)]
    simpa [fail] using h.symm
  · next he => exact .inr ⟨he, h⟩

theorem inMode_fault {need : Need} {s : State} {rule : State → Result} {r : Fault} (h : inMode need s rule = .fault r) :
    modeError need s.mode = none ∧ rule s = .fault r := by
  unfold inMode at h
  split at h
  · simp [fail] at h
  · next he => exact ⟨he, h⟩

/-! ### Reads -/

/-- A read that goes on read a value (R141). -/
theorem orUninit_next {α : Type} {content : Option α} {t : State} {rule : α → Result}
    (h : orUninit content rule = .next t) : ∃ v, content = some v ∧ rule v = .next t := by
  cases content with
  | none => cases h
  | some v => exact ⟨v, rfl, h⟩

/-- A read that stops found no value, or what it went on with stopped (R141). -/
theorem orUninit_fault {α : Type} {content : Option α} {e : Fault} {rule : α → Result}
    (h : orUninit content rule = .fault e) :
    (content = none ∧ e = .uninitRead) ∨ ∃ v, content = some v ∧ rule v = .fault e := by
  cases content with
  | none => cases h; exact .inl ⟨rfl, rfl⟩
  | some v => exact .inr ⟨v, rfl, h⟩

@[simp] theorem orUninit_some {α : Type} (v : α) (rule : α → Result) : orUninit (some v) rule = rule v := rfl
@[simp] theorem orUninit_none {α : Type} (rule : α → Result) : orUninit none rule = .fault .uninitRead := rfl

theorem readReg_next {s t : State} {r : Reg} {rule : Nat → Result} (h : readReg s r rule = .next t) :
    ∃ v, s.f[r] = some v ∧ rule v = .next t := orUninit_next h

theorem readReg_of_some {s : State} {r : Reg} {v : Nat} {rule : Nat → Result} (h : s.f[r] = some v) :
    readReg s r rule = rule v := by
  rw [readReg, h, orUninit_some]

theorem readReg_of_none {s : State} {r : Reg} {rule : Nat → Result} (h : s.f[r] = none) :
    readReg s r rule = .fault .uninitRead := by
  rw [readReg, h, orUninit_none]

theorem readElem_next {s t : State} {i : Nat} {rule : Nat → Result} (h : readElem s i rule = .next t) :
    ∃ v, s.sAt i = some v ∧ rule v = .next t := orUninit_next h

theorem readElem_of_some {s : State} {i v : Nat} {rule : Nat → Result} (h : s.sAt i = some v) :
    readElem s i rule = rule v := by
  rw [readElem, h, orUninit_some]

theorem readElem_of_none {s : State} {i : Nat} {rule : Nat → Result} (h : s.sAt i = none) :
    readElem s i rule = .fault .uninitRead := by
  rw [readElem, h, orUninit_none]

/-- All the locations of a list hold values exactly when the list is made of values. -/
theorem values_eq_some {l : List Elem} {t : List Nat} : values l = some t ↔ l = t.map some := by
  induction l generalizing t with
  | nil => cases t <;> simp [values]
  | cons e rest ih =>
    cases e with
    | none => cases t <;> simp [values]
    | some v =>
      cases t with
      | nil => simp [values]
      | cons w t' => simp [values, ih]; exact and_comm

/-- What reading the whole state vector answers. -/
theorem State.readVec_eq_some {s : State} {t : List Nat} : s.readVec = some t ↔ s.VecIs t := by
  rw [State.readVec, values_eq_some]
  constructor
  · intro h
    have hl : t.length = s.m := by simpa using (congrArg List.length h).symm
    refine ⟨hl, fun j hj => ?_⟩
    have hj' : j < t.length := by omega
    have := congrArg (fun l => l[j]?) h
    simpa [hj, hj', List.getD_eq_getElem?_getD] using this
  · rintro ⟨hl, h⟩
    refine List.ext_getElem (by simp [hl]) fun j hj _ => ?_
    have hj : j < s.m := by simpa using hj
    have hj' : j < t.length := by omega
    simpa [hj', List.getD_eq_getElem?_getD] using h j hj

/-- A layer reads all of `S[0 … M − 1]` and writes all of it. -/
theorem State.mapVec_eq_some {s s' : State} {layer : List Nat → List Nat} :
    s.mapVec layer = some s' ↔ ∃ t, s.VecIs t ∧ s' = s.setVec (layer t) := by
  simp only [State.mapVec, Option.map_eq_some_iff, State.readVec_eq_some]
  constructor <;> rintro ⟨t, h, rfl⟩ <;> exact ⟨t, h, rfl⟩

/-- A permutation reads all of the vector, writes all of it and ends with `HRC = 2·N` (R100). -/
theorem State.permuted_eq_some {s s' : State} :
    s.permuted = some s' ↔ ∃ t, s.VecIs t ∧ s' = (s.setVec (permute s.params t)).setHrc (2 * s.n) := by
  simp only [State.permuted, Option.map_eq_some_iff, State.mapVec_eq_some]
  constructor
  · rintro ⟨u, ⟨t, h, rfl⟩, rfl⟩
    exact ⟨t, h, rfl⟩
  · rintro ⟨t, h, rfl⟩
    exact ⟨_, ⟨t, h, rfl⟩, rfl⟩

/-- Everything an absorption can do (R117): add into `S[ABSPOS]` and advance, or fill the block and permute. -/
theorem State.absorb_eq_some {s s' : State} {v : Nat} :
    s.absorb v = some s' ↔ ∃ x, s.sAt s.abspos = some x ∧
      ((s.abspos + 1 ≠ s.rate ∧
          s' = ((s.setElem s.abspos (add s.p x v)).setHany true).setAbspos (s.abspos + 1)) ∨
        (s.abspos + 1 = s.rate ∧ ∃ u,
          ((s.setElem s.abspos (add s.p x v)).setHany true).permuted = some u ∧ s' = u.setAbspos 0)) := by
  unfold State.absorb
  cases hx : s.sAt s.abspos with
  | none => simp
  | some x =>
    by_cases hr : s.abspos + 1 = s.rate
    · simp [hr, eq_comm]
    · simp [hr, eq_comm]

/-- Everything the padding of `HFIN` can do (R120). -/
theorem State.padded_eq_some {s s' : State} :
    s.padded = some s' ↔ (s.abspos = 0 ∧ s' = s) ∨
      (s.abspos ≠ 0 ∧ ∃ u, s.permuted = some u ∧ s' = u.setAbspos 0) := by
  unfold State.padded
  by_cases h : s.abspos = 0
  · simp [h, eq_comm]
  · simp [h, eq_comm]

/-! ### The state vector after a write -/

theorem State.setElem_sAt (s : State) (i v j : Nat) :
    (s.setElem i v).sAt j = if j = i ∧ i < s.sv.length then some v else s.sAt j := by
  simp only [State.sAt, State.setElem_sv, List.getD_eq_getElem?_getD, List.getElem?_set]
  by_cases hji : i = j
  · subst hji
    by_cases hl : i < s.sv.length
    · simp [hl]
    · simp [hl]
  · simp [hji, Ne.symm hji]

theorem State.setVec_sAt (s : State) (t : List Nat) (j : Nat) :
    (s.setVec t).sAt j = if j < t.length then some (t.getD j 0) else s.sAt j := by
  simp only [State.sAt, State.setVec_sv, List.getD_eq_getElem?_getD]
  by_cases h : j < t.length
  · simp [h, List.getElem?_append_left]
  · have h' : t.length ≤ j := Nat.le_of_not_lt h
    simp [h, List.getElem?_append_right, h', Nat.add_sub_cancel' h']

theorem State.setVec_length {s : State} {t : List Nat} (h : t.length ≤ s.sv.length) :
    (s.setVec t).sv.length = s.sv.length := by
  simp only [State.setVec_sv, List.length_append, List.length_map, List.length_drop]
  omega

/-- A vector written whole reads back as it was written. -/
theorem State.setVec_vecIs {s : State} {t : List Nat} (h : t.length = s.m) : (s.setVec t).VecIs t := by
  refine ⟨by simpa using h, fun j hj => ?_⟩
  have hj : j < t.length := by simpa [h] using hj
  simp [State.setVec_sAt, hj]

/-! ### The layers keep the length -/

@[simp] theorem sbox_length (ps : Params) (e : Nat) (t : List Nat) : (sbox ps e t).length = t.length := by
  simp [sbox]

@[simp] theorem mdsMul_length (ps : Params) (t : List Nat) : (mdsMul ps t).length = ps.m := by
  simp [mdsMul]

@[simp] theorem addRc_length (ps : Params) (k : Nat) (t : List Nat) : (addRc ps k t).length = t.length := by
  simp [addRc]

@[simp] theorem halfRound_length (ps : Params) (t : List Nat) (h : Nat) : (halfRound ps t h).length = ps.m := by
  simp [halfRound]

theorem permute_length {ps : Params} {t : List Nat} (ht : t.length = ps.m) : (permute ps t).length = ps.m := by
  unfold permute
  induction List.range (2 * ps.n) generalizing t with
  | nil => simpa using ht
  | cons h rest ih => exact ih (by simp)

/-! ### The digest register -/

/-- A latched digest reads back as it was latched (R25, R120, R121). -/
theorem State.setDigest_dgAt (s : State) (a b c d i : Nat) : (s.setDigest a b c d).dgAt i = [a, b, c, d].getD i 0 := rfl

/-- `DG[i]` of the model is the vector's element. -/
theorem State.dgAt_eq {s : State} {i : Nat} (h : i < 4) : s.dgAt i = s.dg[i] := by
  simp [State.dgAt, List.getD_eq_getElem?_getD, h]

/-! ### The parameter store -/

/-- What a write of a configuration register changes (R87). -/
theorem State.setCfg_eq_some {s s' : State} {sel v : Nat} :
    s.setCfg sel v = some s' ↔
      (sel = 0 ∧ s' = { s with p := v }) ∨ (sel = 1 ∧ s' = { s with m := v }) ∨
      (sel = 2 ∧ s' = { s with n := v }) ∨ (sel = 3 ∧ s' = { s with alpha := v }) ∨
      (sel = 4 ∧ s' = { s with ainv := v }) ∨ (sel = 5 ∧ s' = { s with rate := v }) := by
  unfold State.setCfg
  split <;> simp_all [eq_comm]

/-- R38: the configuration space has the indices 0 to 5. -/
theorem State.setCfg_eq_none {s : State} {sel v : Nat} : s.setCfg sel v = none ↔ 5 < sel := by
  unfold State.setCfg
  split <;> simp_all
  omega

/-- The checks (a) to (g) of R90, as propositions. -/
theorem State.paramsOk_iff {s : State} :
    s.paramsOk = true ↔
      2 ≤ s.p ∧ 4 ≤ s.m ∧ s.m ≤ s.build.mMax ∧ 1 ≤ s.n ∧ s.n ≤ s.build.nMax ∧ 1 ≤ s.rate ∧ s.rate ≤ s.m ∧
        s.mdsCnt = s.m * s.m ∧ s.rcCnt = 2 * s.n * s.m ∧ 1 ≤ s.alpha ∧ 1 ≤ s.ainv := by
  simp [State.paramsOk, and_assoc]

/-- The bounds of R10, as propositions. -/
theorem Build.ok_iff {b : Build} :
    b.ok = true ↔ 32 ≤ b.dataBits ∧ 4 ≤ b.mMax ∧ b.mMax ≤ 256 ∧ 1 ≤ b.nMax ∧ 2 * b.nMax * b.mMax ≤ 65536 := by
  simp [Build.ok, and_assoc]

/-! ### The step -/

/-- Everything one step can do: nothing, a whole command, or a reset. -/
theorem step_next {s t : State} (h : step s = .next t) :
    (s.inputs = [] ∧ t = s) ∨
    (∃ cmd din rest, s.inputs = .command cmd din :: rest ∧ runWord cmd (s.present din rest) = .next t) ∨
    (∃ rest, t = s.afterReset rest ∧
      (s.inputs = .reset :: rest ∨ ∃ cmd din, s.inputs = .resetDuring cmd din :: rest)) := by
  unfold step takeInput at h
  split at h
  · next hs => exact .inl ⟨hs, by simpa using h.symm⟩
  · next cmd din rest hs => exact .inr (.inl ⟨cmd, din, rest, hs, h⟩)
  · next rest hs => exact .inr (.inr ⟨rest, by simpa using h.symm, .inl hs⟩)
  · next cmd din rest hs => exact .inr (.inr ⟨rest, by simpa using h.symm, .inr ⟨cmd, din, hs⟩⟩)

/-- Everything a command word can do: `E_ILLEGAL`, or its command. -/
theorem runWord_next {cmd : CmdWord} {s t : State} (h : runWord cmd s = .next t) :
    (∃ e, decode cmd = .error e ∧ t = s.respond .illegal 0) ∨ ∃ i, decode cmd = .ok i ∧ exec i s = .next t := by
  unfold runWord at h
  split at h
  · next e he =>
    refine .inl ⟨e, he, ?_⟩
    rw [← s.raise_of_not_fatal (e := .illegal) rfl]
    simpa [fail] using h.symm
  · next i hi => exact .inr ⟨i, hi, h⟩

/-- Everything one step of a platform can do: nothing, or put a core's next state in its place. -/
theorem platformStep_next {k : Nat} {cores cs : List State} (h : platformStep k cores = .next cs) :
    (cores[k]? = none ∧ cs = cores) ∨ ∃ s t, cores[k]? = some s ∧ step s = .next t ∧ cs = cores.set k t := by
  unfold platformStep at h
  split at h
  · next hk => exact .inl ⟨hk, by simpa using h.symm⟩
  · next s hk =>
    split at h
    · next t ht => exact .inr ⟨s, t, hk, ht, by simpa using h.symm⟩
    · cases h
    · cases h

end Sys2Proof.Machine
end

