-- ==== Sys2Proof/Laws/PerInstr.lean ====
section
/-! SUPPORT. Lemmas about the fields of a packed command word (R54), and the family `EncodeFitsFormat`: the word of a
well-formed command carries its row's opcode, and every bit its format does not use is 0 (R55). -/

namespace Sys2Proof

theorem pack_toNat {op rd rs1 low : Nat} (ho : op < 256) (hd : rd < 16) (hs : rs1 < 16) (hl : low < 65536) :
    (pack op rd rs1 low).toNat = op * 2 ^ 24 + rd * 2 ^ 20 + rs1 * 2 ^ 16 + low := by
  rw [pack, BitVec.toNat_ofNat]
  omega

theorem bits_pack_op {op rd rs1 low : Nat} (ho : op < 256) (hd : rd < 16) (hs : rs1 < 16) (hl : low < 65536) :
    bits (pack op rd rs1 low) 31 24 = op := by
  rw [bits, pack_toNat ho hd hs hl]
  omega

theorem bits_pack_rd {op rd rs1 low : Nat} (ho : op < 256) (hd : rd < 16) (hs : rs1 < 16) (hl : low < 65536) :
    bits (pack op rd rs1 low) 23 20 = rd := by
  rw [bits, pack_toNat ho hd hs hl]
  omega

theorem bits_pack_rs1 {op rd rs1 low : Nat} (ho : op < 256) (hd : rd < 16) (hs : rs1 < 16) (hl : low < 65536) :
    bits (pack op rd rs1 low) 19 16 = rs1 := by
  rw [bits, pack_toNat ho hd hs hl]
  omega

theorem bits_pack_rs2 {op rd rs1 low : Nat} (ho : op < 256) (hd : rd < 16) (hs : rs1 < 16) (hl : low < 65536) :
    bits (pack op rd rs1 low) 15 12 = low / 2 ^ 12 := by
  rw [bits, pack_toNat ho hd hs hl]
  omega

theorem bits_pack_low {op rd rs1 low : Nat} (ho : op < 256) (hd : rd < 16) (hs : rs1 < 16) (hl : low < 65536) :
    bits (pack op rd rs1 low) 15 0 = low := by
  rw [bits, pack_toNat ho hd hs hl]
  omega

/-- Each format's unused bits are 0 in a word packed with zeros in the fields it does not use. -/
theorem zerosOk_pack {f : Format} {op rd rs1 low : Nat} (ho : op < 256) (hd : rd < 16) (hs : rs1 < 16)
    (hl : low < 65536)
    (h : match f with
      | .Z => rd = 0 ∧ rs1 = 0 ∧ low = 0
      | .RRR => low % 2 ^ 12 = 0
      | .RR => low = 0
      | .RC => rd = 0 ∧ low % 2 ^ 12 = 0
      | .RD => rs1 = 0 ∧ low = 0
      | .RS => rd = 0 ∧ low = 0
      | .RDI => rs1 = 0
      | .RSI => rd = 0
      | .I => rd = 0 ∧ rs1 = 0) :
    f.zerosOk (pack op rd rs1 low) = true := by
  cases f <;>
    simp only [Format.zerosOk, bits, pack_toNat ho hd hs hl, Bool.and_eq_true, beq_iff_eq] at h ⊢ <;> omega

/-- Every opcode of R59 fits the 8 bits of `op`. -/
theorem row_op_lt (i : Instr) : i.row.op < 256 := by
  cases i <;> simp [Instr.row]

namespace Laws.EncodeFitsFormat

/-- The encoded word has the opcode of its row in bits 31:24 and zeros in every must-be-zero bit of its format. -/
def Statement (i : Instr) : Prop :=
  i.wf = true → bits (encode i) 31 24 = i.row.op ∧ i.row.format.zerosOk (encode i) = true

/-- The shape of all 36 lemmas: what `encode` packs for the command. -/
theorem of_pack {i : Instr} {rd rs1 low : Nat} (he : encode i = pack i.row.op rd rs1 low)
    (hd : rd < 16) (hs : rs1 < 16) (hl : low < 65536)
    (h : match i.row.format with
      | .Z => rd = 0 ∧ rs1 = 0 ∧ low = 0
      | .RRR => low % 2 ^ 12 = 0
      | .RR => low = 0
      | .RC => rd = 0 ∧ low % 2 ^ 12 = 0
      | .RD => rs1 = 0 ∧ low = 0
      | .RS => rd = 0 ∧ low = 0
      | .RDI => rs1 = 0
      | .RSI => rd = 0
      | .I => rd = 0 ∧ rs1 = 0) :
    bits (encode i) 31 24 = i.row.op ∧ i.row.format.zerosOk (encode i) = true := by
  rw [he]
  exact ⟨bits_pack_op (row_op_lt i) hd hs hl, zerosOk_pack (row_op_lt i) hd hs hl h⟩

/-- A 16-bit index, from the well-formedness of its command. -/
theorem idx_lt {n : Nat} (h : idxOk n = true) : n < 65536 := of_decide_eq_true h

theorem nop : Statement .nop := fun _ =>
  of_pack rfl (by decide) (by decide) (by decide) ⟨rfl, rfl, rfl⟩

theorem csrr (n : Nat) : Statement (.csrr n) := fun h =>
  of_pack rfl (by decide) (by decide) (idx_lt h) ⟨rfl, rfl⟩

theorem fadd (fd fa fb : Reg) : Statement (.fadd fd fa fb) := fun _ =>
  of_pack rfl fd.isLt fa.isLt (by omega) (Nat.mul_mod_left _ _)

theorem fsub (fd fa fb : Reg) : Statement (.fsub fd fa fb) := fun _ =>
  of_pack rfl fd.isLt fa.isLt (by omega) (Nat.mul_mod_left _ _)

theorem fmul (fd fa fb : Reg) : Statement (.fmul fd fa fb) := fun _ =>
  of_pack rfl fd.isLt fa.isLt (by omega) (Nat.mul_mod_left _ _)

theorem fpow (fd fa : Reg) : Statement (.fpow fd fa) := fun _ =>
  of_pack rfl fd.isLt fa.isLt (by decide) rfl

theorem finv (fd fa : Reg) : Statement (.finv fd fa) := fun _ =>
  of_pack rfl fd.isLt fa.isLt (by decide) rfl

theorem feq (fa fb : Reg) : Statement (.feq fa fb) := fun _ =>
  of_pack rfl (by decide) fa.isLt (by omega) ⟨rfl, Nat.mul_mod_left _ _⟩

theorem flt (fa fb : Reg) : Statement (.flt fa fb) := fun _ =>
  of_pack rfl (by decide) fa.isLt (by omega) ⟨rfl, Nat.mul_mod_left _ _⟩

theorem fldu (fd : Reg) : Statement (.fldu fd) := fun _ =>
  of_pack rfl fd.isLt (by decide) (by decide) ⟨rfl, rfl⟩

theorem flds (fd : Reg) : Statement (.flds fd) := fun _ =>
  of_pack rfl fd.isLt (by decide) (by decide) ⟨rfl, rfl⟩

theorem fst (fa : Reg) : Statement (.fst fa) := fun _ =>
  of_pack rfl (by decide) fa.isLt (by decide) ⟨rfl, rfl⟩

theorem fmv (fd fa : Reg) : Statement (.fmv fd fa) := fun _ =>
  of_pack rfl fd.isLt fa.isLt (by decide) rfl

theorem sget (fd : Reg) (i : Nat) : Statement (.sget fd i) := fun h =>
  of_pack rfl fd.isLt (by decide) (idx_lt h) rfl

theorem sput (fa : Reg) (i : Nat) : Statement (.sput fa i) := fun h =>
  of_pack rfl (by decide) fa.isLt (idx_lt h) rfl

theorem szero : Statement .szero := fun _ =>
  of_pack rfl (by decide) (by decide) (by decide) ⟨rfl, rfl, rfl⟩

theorem sboxf : Statement .sboxf := fun _ =>
  of_pack rfl (by decide) (by decide) (by decide) ⟨rfl, rfl, rfl⟩

theorem sboxi : Statement .sboxi := fun _ =>
  of_pack rfl (by decide) (by decide) (by decide) ⟨rfl, rfl, rfl⟩

theorem mdsmul : Statement .mdsmul := fun _ =>
  of_pack rfl (by decide) (by decide) (by decide) ⟨rfl, rfl, rfl⟩

theorem arc (k : Nat) : Statement (.arc k) := fun h =>
  of_pack rfl (by decide) (by decide) (idx_lt h) ⟨rfl, rfl⟩

theorem pinit : Statement .pinit := fun _ =>
  of_pack rfl (by decide) (by decide) (by decide) ⟨rfl, rfl, rfl⟩

theorem pstep : Statement .pstep := fun _ =>
  of_pack rfl (by decide) (by decide) (by decide) ⟨rfl, rfl, rfl⟩

theorem perm : Statement .perm := fun _ =>
  of_pack rfl (by decide) (by decide) (by decide) ⟨rfl, rfl, rfl⟩

theorem hinit : Statement .hinit := fun _ =>
  of_pack rfl (by decide) (by decide) (by decide) ⟨rfl, rfl, rfl⟩

theorem habs : Statement .habs := fun _ =>
  of_pack rfl (by decide) (by decide) (by decide) ⟨rfl, rfl, rfl⟩

theorem hfin : Statement .hfin := fun _ =>
  of_pack rfl (by decide) (by decide) (by decide) ⟨rfl, rfl, rfl⟩

theorem hsqz (i : Nat) : Statement (.hsqz i) := fun h =>
  of_pack rfl (by decide) (by decide) (idx_lt h) ⟨rfl, rfl⟩

theorem habsr (fa : Reg) : Statement (.habsr fa) := fun _ =>
  of_pack rfl (by decide) fa.isLt (by decide) ⟨rfl, rfl⟩

theorem pcfg (sel : Nat) : Statement (.pcfg sel) := fun h =>
  of_pack rfl (by decide) (by decide) (idx_lt h) ⟨rfl, rfl⟩

theorem pmds : Statement .pmds := fun _ =>
  of_pack rfl (by decide) (by decide) (by decide) ⟨rfl, rfl, rfl⟩

theorem prck : Statement .prck := fun _ =>
  of_pack rfl (by decide) (by decide) (by decide) ⟨rfl, rfl, rfl⟩

theorem pcommit : Statement .pcommit := fun _ =>
  of_pack rfl (by decide) (by decide) (by decide) ⟨rfl, rfl, rfl⟩

theorem pclear : Statement .pclear := fun _ =>
  of_pack rfl (by decide) (by decide) (by decide) ⟨rfl, rfl, rfl⟩

theorem prdcfg (sel : Nat) : Statement (.prdcfg sel) := fun h =>
  of_pack rfl (by decide) (by decide) (idx_lt h) ⟨rfl, rfl⟩

theorem prdmds (q : Nat) : Statement (.prdmds q) := fun h =>
  of_pack rfl (by decide) (by decide) (idx_lt h) ⟨rfl, rfl⟩

theorem prdrc (q : Nat) : Statement (.prdrc q) := fun h =>
  of_pack rfl (by decide) (by decide) (idx_lt h) ⟨rfl, rfl⟩

end Laws.EncodeFitsFormat

end Sys2Proof
end

