-- ==== Sys2Proof/Tests/Slice0.lean ====
section
/-! SUPPORT. The model's own tests: ill-formed terms that the checks refuse, a word of every command written out from the
encodings R54, R55, R59, single steps on small states with the results the spec's vectors give (95_test_vectors.md,
96_family_vectors.md), and for each statement with hypotheses a state that meets them. -/

-- One theorem after another: each kernel evaluation would otherwise hold a thread of its own while it waits.
set_option Elab.async false

namespace Sys2Proof.Tests

open Sys2Proof.Machine

/-! ### Ill-formed terms -/

theorem test_wf_refuses_index_too_wide :
    Instr.wf (.csrr 65536) = false ∧ Instr.wf (.sget 0 65536) = false ∧ Instr.wf (.sput 0 65536) = false ∧
      Instr.wf (.arc 65536) = false ∧ Instr.wf (.hsqz 65536) = false ∧ Instr.wf (.pcfg 65536) = false ∧
      Instr.wf (.prdcfg 65536) = false ∧ Instr.wf (.prdmds 65536) = false ∧ Instr.wf (.prdrc 65536) = false := by
  decide

theorem test_wf_accepts_widest_index : Instr.wf (.sput 0 65535) = true ∧ Instr.wf .nop = true := by decide

theorem test_din_refuses_wide_word :
    dinOk Config.build (2 ^ 64) = false ∧ dinOk Config.build (2 ^ 64 - 1) = true := by
  decide

theorem test_build_refuses_each_bound :
    Build.ok ⟨31, 16, 16⟩ = false ∧ Build.ok ⟨64, 3, 16⟩ = false ∧ Build.ok ⟨64, 257, 1⟩ = false ∧
      Build.ok ⟨64, 16, 0⟩ = false ∧ Build.ok ⟨64, 256, 129⟩ = false ∧ Build.ok ⟨32, 256, 128⟩ = true ∧
      Build.ok Config.build = true := by
  decide

/-! ### A word of every command, written out from R54, R55 and R59 (op, rd, rs1, rs2 or idx, hexadecimal digit groups) -/

theorem test_decode_system :
    decodeTableWord 32 0x00000000 = some .nop ∧ decodeTableWord 32 0x01000007 = some (.csrr 7) := by
  decide

theorem test_decode_field :
    decodeTableWord 32 0x10312000 = some (.fadd 3 1 2) ∧ decodeTableWord 32 0x11312000 = some (.fsub 3 1 2) ∧
      decodeTableWord 32 0x12312000 = some (.fmul 3 1 2) ∧ decodeTableWord 32 0x13310000 = some (.fpow 3 1) ∧
      decodeTableWord 32 0x14310000 = some (.finv 3 1) ∧ decodeTableWord 32 0x15034000 = some (.feq 3 4) ∧
      decodeTableWord 32 0x16012000 = some (.flt 1 2) ∧ decodeTableWord 32 0x18300000 = some (.fldu 3) ∧
      decodeTableWord 32 0x19F00000 = some (.flds 15) ∧ decodeTableWord 32 0x1A030000 = some (.fst 3) ∧
      decodeTableWord 32 0x1B230000 = some (.fmv 2 3) := by
  decide

theorem test_decode_state_and_layers :
    decodeTableWord 32 0x20500002 = some (.sget 5 2) ∧ decodeTableWord 32 0x2105FFFF = some (.sput 5 65535) ∧
      decodeTableWord 32 0x22000000 = some .szero ∧ decodeTableWord 32 0x30000000 = some .sboxf ∧
      decodeTableWord 32 0x31000000 = some .sboxi ∧ decodeTableWord 32 0x32000000 = some .mdsmul ∧
      decodeTableWord 32 0x33000001 = some (.arc 1) ∧ decodeTableWord 32 0x38000000 = some .pinit ∧
      decodeTableWord 32 0x39000000 = some .pstep ∧ decodeTableWord 32 0x3A000000 = some .perm := by
  decide

theorem test_decode_sponge :
    decodeTableWord 32 0x40000000 = some .hinit ∧ decodeTableWord 32 0x41000000 = some .habs ∧
      decodeTableWord 32 0x42000000 = some .hfin ∧ decodeTableWord 32 0x43000002 = some (.hsqz 2) ∧
      decodeTableWord 32 0x44010000 = some (.habsr 1) := by
  decide

theorem test_decode_parameter_store :
    decodeTableWord 32 0x50000005 = some (.pcfg 5) ∧ decodeTableWord 32 0x51000000 = some .pmds ∧
      decodeTableWord 32 0x52000000 = some .prck ∧ decodeTableWord 32 0x53000000 = some .pcommit ∧
      decodeTableWord 32 0x54000000 = some .pclear ∧ decodeTableWord 32 0x55000003 = some (.prdcfg 3) ∧
      decodeTableWord 32 0x5600FFFF = some (.prdmds 65535) ∧ decodeTableWord 32 0x57000004 = some (.prdrc 4) := by
  decide

/-- 96_family_vectors.md section 1: a must-be-zero bit of each format, and unassigned opcodes. -/
theorem test_decode_refuses :
    decodeTableWord 32 0x00100000 = none ∧ decodeTableWord 32 0x10312001 = none ∧
      decodeTableWord 32 0x13311000 = none ∧ decodeTableWord 32 0x15134000 = none ∧
      decodeTableWord 32 0x18310000 = none ∧ decodeTableWord 32 0x1A130000 = none ∧
      decodeTableWord 32 0x20510002 = none ∧ decodeTableWord 32 0x21100003 = none ∧
      decodeTableWord 32 0x33010001 = none ∧ decodeTableWord 32 0x17000000 = none ∧
      decodeTableWord 32 0x58000000 = none := by
  decide

/-! ### States of the spec's vectors -/

/-- The next state of an answer. -/
def nextOf : Result → Option State
  | .next t => some t
  | .fault _ => none
  | .refused _ => none

/-- Whether an answer is the model fault `UninitRead`. -/
def isUninit : Result → Bool
  | .fault .uninitRead => true
  | .next _ => false
  | .refused _ => false

/-- The last response of an answer. -/
def lastOf (r : Result) : Option Response := (nextOf r).bind fun t => t.responses.getLast?

/-- A small core with the configuration of T1 (95_test_vectors.md section 2.1) written, in mode `UNCONF`. -/
def t1cfg : State :=
  { State.resetOf ⟨64, 4, 2⟩ with p := 11, m := 4, n := 2, alpha := 3, ainv := 7, rate := 2 }

/-- T1 loaded and not yet committed. -/
def t1loaded : State :=
  (t1cfg.setMds [1, 2, 3, 4, 5, 14, 7, 8, 9, 10, 1, 2, 3, 4, 5, 6] 16).setRc
    [1, 2, 3, 4, 5, 6, 7, 8, 9, 10, 0, 1, 2, 4, 6, 19] 16

/-- T1 committed. -/
def t1 : State := t1loaded.committed

/-- T1 committed with `S = [1, 2, 3, 4]`, `f1 = 7`, `f2 = 9`, `f3 = 0`. -/
def t1run : State := ((((t1.setVec [1, 2, 3, 4]).setReg 1 7).setReg 2 9).setReg 3 0)

/-- The same with an open call in which one element of the block has been absorbed. -/
def t1open : State := ((t1run.setHopen true).setHany true).setAbspos 1

/-- The same with no open call and the digest `[8, 0, 3, 0]` latched. -/
def t1digest : State := (t1run.setDigest 8 0 3 0).setDvalid true

/-- A core in mode `FATAL` after a failing `PCOMMIT`. -/
def t1fatal : State := t1cfg.raise .param

/-! ### Single steps, results from the worked examples of the rules -/

theorem test_fadd : (nextOf (exec (.fadd 3 1 2) t1run)).map (·.f[3]) = some (some 5) := by decide +kernel
theorem test_fsub : (nextOf (exec (.fsub 4 1 2) t1run)).map (·.f[4]) = some (some 9) := by decide +kernel
theorem test_fmul : (nextOf (exec (.fmul 1 1 2) t1run)).map (·.f[1]) = some (some 8) := by decide +kernel
theorem test_fpow :
    (nextOf (exec (.fpow 3 1) { t1run with din := 2 ^ 64 - 1 })).map (·.f[3]) = some (some 10) := by decide +kernel
theorem test_fpow_zero_zero : (nextOf (exec (.fpow 4 3) t1run)).map (·.f[4]) = some (some 1) := by decide +kernel
theorem test_finv : (nextOf (exec (.finv 1 1) t1run)).map (·.f[1]) = some (some 8) := by decide +kernel
theorem test_finv_zero : lastOf (exec (.finv 1 3) t1run) = some ⟨.invop, 0⟩ := by decide +kernel
theorem test_feq : lastOf (exec (.feq 1 1) t1run) = some ⟨.ok, 1⟩ := by decide +kernel
theorem test_flt : lastOf (exec (.flt 1 2) t1run) = some ⟨.ok, 1⟩ := by decide +kernel
theorem test_fldu : (nextOf (exec (.fldu 3) { t1run with din := 25 })).map (·.f[3]) = some (some 3) := by
  decide +kernel
theorem test_flds_minus_one :
    (nextOf (exec (.flds 0) { t1run with din := 2 ^ 64 - 1 })).map (·.f[0]) = some (some 10) := by decide +kernel
theorem test_fst : lastOf (exec (.fst 2) t1run) = some ⟨.ok, 9⟩ := by decide +kernel
theorem test_fst_unwritten : isUninit (exec (.fst 4) t1run) = true := by decide +kernel
theorem test_fmv : (nextOf (exec (.fmv 5 2) t1run)).map (·.f[5]) = some (some 9) := by decide +kernel
theorem test_sget : (nextOf (exec (.sget 5 2) t1run)).map (·.f[5]) = some (some 3) := by decide +kernel
theorem test_sget_index_before_read : lastOf (exec (.sget 5 4) t1) = some ⟨.index, 0⟩ := by decide +kernel
theorem test_sput :
    (nextOf (exec (.sput 2 3) t1run)).map (·.sv) = some [some 1, some 2, some 3, some 9] := by decide +kernel
theorem test_szero :
    (nextOf (exec .szero t1)).map (·.sv) = some [some 0, some 0, some 0, some 0] := by decide +kernel
theorem test_sboxf :
    (nextOf (exec .sboxf t1run)).map (·.sv) = some [some 1, some 8, some 5, some 9] := by decide +kernel
theorem test_sboxi :
    (nextOf (exec .sboxi t1run)).map (·.sv) = some [some 1, some 7, some 9, some 5] := by decide +kernel
theorem test_mdsmul :
    (nextOf (exec .mdsmul t1run)).map (·.sv) = some [some 8, some 9, some 7, some 6] := by decide +kernel
theorem test_arc :
    (nextOf (exec (.arc 1) t1run)).map (·.sv) = some [some 6, some 8, some 10, some 1] := by decide +kernel
theorem test_pinit : (nextOf (exec .pinit (t1run.setHrc 3))).map (·.hrc) = some 0 := by decide +kernel
theorem test_pstep_forward :
    (nextOf (exec .pstep t1run)).map (fun t => (t.sv, t.hrc)) =
      some ([some 3, some 6, some 5, some 8], 1) := by decide +kernel
theorem test_pstep_inverse :
    (nextOf (exec .pstep (t1run.setHrc 1))).map (fun t => (t.sv, t.hrc)) =
      some ([some 1, some 3, some 6, some 4], 2) := by decide +kernel
theorem test_perm :
    (nextOf (exec .perm (t1run.setHrc 3))).map (fun t => (t.sv, t.hrc)) =
      some ([some 9, some 0, some 3, some 10], 4) := by decide +kernel
theorem test_hinit :
    (nextOf (exec .hinit t1digest)).map (fun t => (t.statusWord, t.sv)) =
      some (5, [some 0, some 0, some 0, some 0]) := by decide +kernel
theorem test_habs_first_of_block :
    (nextOf (exec .habs ({ t1open with din := 12 }.setAbspos 0))).map (fun t => (t.sv, t.abspos)) =
      some ([some 2, some 2, some 3, some 4], 1) := by decide +kernel
theorem test_habs_fills_block :
    (nextOf (exec .habs { (t1open.setVec [1, 0, 0, 0]) with din := 2 })).map (fun t => (t.sv, t.abspos)) =
      some ([some 7, some 3, some 4, some 3], 0) := by decide +kernel
theorem test_habsr :
    (nextOf (exec (.habsr 1) (t1open.setAbspos 0))).map (·.sv) = some [some 8, some 2, some 3, some 4] := by
  decide +kernel
theorem test_hfin_pads :
    (nextOf (exec .hfin (t1open.setVec [1, 0, 0, 0]))).map (fun t => (t.dg, t.statusWord)) =
      some (#v[8, 0, 3, 0], 0x19) := by decide +kernel
theorem test_hsqz : lastOf (exec (.hsqz 2) t1digest) = some ⟨.ok, 3⟩ := by decide +kernel
theorem test_hsqz_sequence_before_index : lastOf (exec (.hsqz 9) t1run) = some ⟨.seq, 0⟩ := by decide +kernel
theorem test_nop : lastOf (exec .nop t1fatal) = some ⟨.ok, 0⟩ := by decide +kernel
theorem test_csrr_after_failed_commit : lastOf (exec (.csrr 0) t1fatal) = some ⟨.ok, 0x902⟩ := by decide +kernel
theorem test_pcfg : (nextOf (exec (.pcfg 5) { t1cfg with din := 3 })).map (·.rate) = some 3 := by decide +kernel
theorem test_pmds_overflow_mark :
    (nextOf (exec .pmds t1loaded)).map (fun t => (t.mdsCnt, t.responses)) = some (17, [⟨.index, 0⟩]) := by
  decide +kernel
theorem test_prck :
    (nextOf (exec .prck { t1cfg with din := 19 })).map (fun t => (t.rcBuf, t.rcCnt)) = some ([19], 1) := by
  decide +kernel
theorem test_pcommit_reduces :
    (nextOf (exec .pcommit t1loaded)).map (fun t => (t.mode, tableAt t.mdsBuf 5, tableAt t.rcBuf 15)) =
      some (.ready, 3, 8) := by decide +kernel
theorem test_pcommit_short_table :
    (nextOf (exec .pcommit t1cfg)).map (fun t => (t.mode, t.fcause)) = some (.fatal, 9) := by decide +kernel
theorem test_pclear : (nextOf (exec .pclear t1loaded)).map (fun t => (t.p, t.mdsCnt)) = some (0, 0) := by
  decide +kernel
theorem test_prdcfg : lastOf (exec (.prdcfg 3) t1) = some ⟨.ok, 3⟩ := by decide +kernel
theorem test_prdmds : lastOf (exec (.prdmds 5) t1) = some ⟨.ok, 3⟩ := by decide +kernel
theorem test_prdrc : lastOf (exec (.prdrc 4) t1) = some ⟨.ok, 5⟩ := by decide +kernel

/-- R144: an illegal word is `E_ILLEGAL` before the mode is looked at. -/
theorem test_step_illegal_before_mode :
    lastOf (step (State.reset.withFetchWord 32 0x14310001)) = some ⟨.illegal, 0⟩ := by decide +kernel
theorem test_step_arithmetic_before_commit :
    lastOf (step (State.reset.withFetchWord 32 0x14310000)) = some ⟨.noparam, 0⟩ := by decide +kernel
theorem test_step_reset :
    (nextOf (step { t1digest with inputs := [.reset] })).map (fun t => (t.mode, t.mdsBuf, t.dvalid)) =
      some (.unconf, [], false) := by decide +kernel
theorem test_asm :
    asmText Config.build (.flds 1) (2 ^ 64 - 1) = "FLDS f1, #-1" ∧ asmText Config.build (.pcfg 5) 2 = "PCFG RATE, #2" ∧
      dataWord Config.build (-25) = 0xFFFFFFFFFFFFFFE7 := by decide +kernel

/-! ### Witnesses: states and operands that meet a statement's hypotheses, at the ends of its ranges -/

/-- The core after a full hash call: a digest, a complete permutation, values in the register `f1` that one command will
read, and a hash call of one element presented. -/
def t1hash : State := { t1digest.setHrc 4 with inputs := hashCall [2 ^ 64 - 1] }

theorem next_of_isSome {r : Result} (h : (nextOf r).isSome = true) : ∃ t, r = .next t := by
  cases r with
  | next t => exact ⟨t, rfl⟩
  | fault _ => simp [nextOf] at h
  | refused _ => simp [nextOf] at h

theorem next_of_any {r : Result} {P : State → Bool} (h : (nextOf r).any P = true) : ∃ t, r = .next t ∧ P t = true := by
  cases r with
  | next t => exact ⟨t, rfl, by simpa [nextOf] using h⟩
  | fault _ => simp [nextOf] at h
  | refused _ => simp [nextOf] at h

theorem witness_DecodeEncodeRoundTrip : Instr.wf (.sput 15 65535) = true := by decide

theorem witness_EncodeDecodeRoundTrip : decode 0x21FFFFFF = .error (.mustBeZero 0x21) ∧
    decode 0x210FFFFF = .ok (.sput 15 65535) := by decide

theorem witness_DecodeSelectsByMask : Instr.row (.prdrc 7) ∈ opcodeTable ∧
    (0x57000007#32 &&& Format.I.mask = BitVec.ofNat 32 0x57 <<< 24) := by decide

theorem witness_ReservedOpcodesAreIllegal :
    ∀ op ∈ [2, 0x0F, 0x17, 0x1C, 0x1F, 0x23, 0x2F, 0x34, 0x37, 0x3B, 0x3F, 0x45, 0x4F, 0x58, 0xFF],
      bits (pack op 15 15 65535) 31 24 = op ∧ decode (pack op 15 15 65535) = .error (.unassigned op) := by
  decide +kernel

theorem witness_StepRunsDecodedCommand :
    ∃ s : State, s.inputs = .command 0x10312000 5 :: [.reset] ∧ decode 0x10312000 = .ok (.fadd 3 1 2) :=
  ⟨{ t1run with inputs := [.command 0x10312000 5, .reset] }, rfl, by decide⟩

theorem witness_IllegalWordAnswersIllegal :
    ∃ s : State, s.inputs = .command 0x00000001 5 :: [] ∧ decode 0x00000001 = .error (.mustBeZero 0) :=
  ⟨{ t1fatal with inputs := [.command 0x00000001 5] }, rfl, by decide⟩

theorem witness_ResetInputGivesResetState :
    (∃ s : State, s.inputs = .reset :: [] ∧ s.mode = .fatal) ∧
      ∃ s : State, s.inputs = .resetDuring 0x3A000000 0 :: [] ∧ s.mode = .ready :=
  ⟨⟨{ t1fatal with inputs := [.reset] }, rfl, rfl⟩, ⟨{ t1run with inputs := [.resetDuring 0x3A000000 0] }, rfl, rfl⟩⟩

theorem witness_IdleCoreHoldsState : t1run.inputs = [] := rfl

/-- `EveryCommandAnswersOnce`, and the other statements whose only hypothesis is an answer `next t`. -/
theorem witness_EveryCommandAnswersOnce :
    (∃ t, exec .perm t1run = .next t) ∧ (∃ t, exec .pmds t1loaded = .next t) ∧ ∃ t, exec .hfin t1fatal = .next t :=
  ⟨next_of_isSome (by decide +kernel), next_of_isSome (by decide +kernel), next_of_isSome (by decide +kernel)⟩

theorem witness_IgnoredDinHasNoEffect : (Instr.row (.fadd 3 1 2)).din = .ignored := rfl

theorem witness_ModeErrorsComeFirst :
    (t1fatal.mode = .fatal ∧ (Instr.prdmds 0) ≠ .nop ∧ ∀ n, (Instr.prdmds 0) ≠ .csrr n) ∧
      (t1loaded.mode = .unconf ∧ (Instr.row .perm).need = .ready) ∧ t1.mode = .ready :=
  ⟨⟨rfl, by decide, fun _ h => by cases h⟩, ⟨rfl, rfl⟩, rfl⟩

theorem witness_FatalModeIsAbsorbing :
    ∃ s : State, s.mode = .fatal ∧ s.inputs = .command 0x3A000000 0 :: [] ∧ decode 0x3A000000 = .ok .perm :=
  ⟨{ t1fatal with inputs := [.command 0x3A000000 0] }, rfl, rfl, by decide⟩

/-- A parameter write and a command that goes on. -/
theorem witness_ReadyStoreIsImmutable : t1run.mode = .ready ∧ ∃ t, exec .pclear t1run = .next t :=
  ⟨rfl, next_of_isSome (by decide +kernel)⟩

/-- Each case of `FailedCommandChangesNothing`: an ordinary error, and the two that leave an overflow mark. -/
theorem witness_FailedCommandChangesNothing :
    (∃ t, exec (.arc 4) t1run = .next t ∧ t.responses = t1run.responses ++ [⟨.index, 0⟩]) ∧
    (∃ t, exec .pmds t1loaded = .next t ∧ t.responses = t1loaded.responses ++ [⟨.index, 0⟩]) ∧
    ∃ t, exec .prck t1loaded = .next t ∧ t.responses = t1loaded.responses ++ [⟨.index, 0⟩] :=
  ⟨⟨_, rfl, rfl⟩, ⟨_, rfl, rfl⟩, ⟨_, rfl, rfl⟩⟩

theorem witness_OnlyCommitMovesMode :
    (∃ t, exec .pcommit t1loaded = .next t ∧ decide (t.mode ≠ t1loaded.mode) = true) ∧
      ∃ t, exec .pcommit t1cfg = .next t ∧ decide (t.fcause ≠ t1cfg.fcause) = true :=
  ⟨next_of_any (by decide +kernel), next_of_any (by decide +kernel)⟩

/-- One answer of every status that a decoded command can give. -/
theorem witness_ErrorsComeFromTheirCommands :
    lastOf (exec .pclear t1fatal) = some ⟨.fatal, 0⟩ ∧ lastOf (exec .perm t1loaded) = some ⟨.noparam, 0⟩ ∧
      lastOf (exec (.pcfg 0) t1) = some ⟨.locked, 0⟩ ∧ lastOf (exec .hfin t1run) = some ⟨.seq, 0⟩ ∧
      lastOf (exec (.prdrc 16) t1) = some ⟨.index, 0⟩ ∧ lastOf (exec (.finv 3 3) t1run) = some ⟨.invop, 0⟩ ∧
      lastOf (exec .hfin (t1run.setHopen true)) = some ⟨.input, 0⟩ ∧
      lastOf (exec .pcommit t1cfg) = some ⟨.param, 0⟩ := by
  decide +kernel

/-- A command that changes each piece of state `StateHasItsWriters` speaks of. -/
theorem witness_StateHasItsWriters :
    (nextOf (exec (.fldu 1) t1run)).any (fun t => t.f ≠ t1run.f) = true ∧
      (nextOf (exec .perm t1run)).any (fun t => t.sv ≠ t1run.sv ∧ t.hrc ≠ t1run.hrc) = true ∧
      (nextOf (exec .hinit t1digest)).any (fun t => t.hopen ≠ t1digest.hopen ∧ t.dvalid ≠ t1digest.dvalid) = true ∧
      (nextOf (exec .hfin t1open)).any (fun t => t.dg ≠ t1open.dg ∧ t.abspos ≠ t1open.abspos) = true ∧
      (nextOf (exec .pclear t1loaded)).any (fun t => t.p ≠ t1loaded.p ∧ t.mdsBuf ≠ t1loaded.mdsBuf ∧
        t.rcBuf ≠ t1loaded.rcBuf ∧ t.mdsCnt ≠ t1loaded.mdsCnt ∧ t.rcCnt ≠ t1loaded.rcCnt) = true ∧
      (nextOf (exec .pcommit t1cfg)).any (fun t => t.mode ≠ t1cfg.mode ∧ t.fcause ≠ t1cfg.fcause) = true := by
  decide +kernel

theorem witness_ReadCommandsChangeNothing :
    (∃ t, exec (.hsqz 3) t1digest = .next t) ∧ (∃ t, exec (.fst 1) t1run = .next t) ∧
      ∃ t, exec (.flt 1 2) t1run = .next t :=
  ⟨next_of_isSome (by decide +kernel), next_of_isSome (by decide +kernel), next_of_isSome (by decide +kernel)⟩

theorem witness_ResetMeetsInvariant : Build.ok Config.build = true ∧ Build.ok ⟨32, 4, 1⟩ = true := by decide

theorem t1hash_f_toList :
    t1hash.f.toList = [none, some 7, some 9, some 0, none, none, none, none, none, none, none, none, none, none, none,
      none] := by decide +kernel
theorem t1hash_sv : t1hash.sv = [some 1, some 2, some 3, some 4] := by decide +kernel
theorem t1hash_dg_toList : t1hash.dg.toList = [8, 0, 3, 0] := by decide +kernel

theorem t1hash_inv : Inv t1hash where
  build_ok := by decide +kernel
  cfg_fits sel v h := by
    match sel with
    | 0 | 1 | 2 | 3 | 4 | 5 => cases h; decide +kernel
    | k + 6 => cases h
  mds_length := by decide +kernel
  rc_length := by decide +kernel
  mds_count := by decide +kernel
  rc_count := by decide +kernel
  mds_fits := by decide +kernel
  rc_fits := by decide +kernel
  sv_length := by decide +kernel
  fcause_mode := by decide +kernel
  responses_ok r h := by cases h
  ready _ :=
    { params_ok := by decide +kernel
      mds_reduced := by decide +kernel
      rc_reduced := by decide +kernel
      f_range := fun v h => by
        have hp : t1hash.p = 11 := rfl
        simp [t1hash_f_toList] at h
        omega
      sv_range := fun v h => by
        have hp : t1hash.p = 11 := rfl
        simp [t1hash_sv] at h
        omega
      dg_range := fun v h => by
        have hp : t1hash.p = 11 := rfl
        simp [t1hash_dg_toList] at h
        omega
      hrc_range := by decide +kernel
      abspos_range := by decide +kernel
      abspos_open := by decide +kernel
      open_filled := by decide +kernel
      open_not_valid := by decide +kernel }
  empty h := absurd rfl h

theorem witness_StepKeepsInvariant : Inv t1hash ∧ ∃ t, step t1hash = .next t :=
  ⟨t1hash_inv, next_of_isSome (by decide +kernel)⟩

theorem witness_StateElementsKeepValues :
    t1.mode = .ready ∧ (∃ t, exec .hinit t1 = .next t) ∧ 3 < t1.m ∧ (∃ t, exec .szero t1 = .next t) ∧
      (t1run.sAt 3).isSome = true ∧ ∃ t, exec .mdsmul t1run = .next t :=
  ⟨rfl, next_of_isSome (by decide +kernel), by decide +kernel, next_of_isSome (by decide +kernel), by decide +kernel,
    next_of_isSome (by decide +kernel)⟩

theorem witness_UninitReadOnlyFromListedCommands : Inv t1hash ∧ exec (.fst 0) t1hash = .fault .uninitRead :=
  ⟨t1hash_inv, rfl⟩

theorem witness_NopChangesNothing :
    bits (0x00FFFFFF : CmdWord) 31 24 = 0 ∧ decode 0x00FFFFFF = .error (.mustBeZero 0) := by decide

theorem witness_CsrrReadsStatusRegisters :
    lastOf (exec (.csrr 7) t1) = some ⟨.ok, 64⟩ ∧ lastOf (exec (.csrr 8) t1) = some ⟨.index, 0⟩ := by decide +kernel

theorem witness_LoadsConstructFieldElements :
    t1.mode = .ready ∧ 2 * (2 ^ 63 - 1) < 2 ^ t1.build.dataBits ∧ 2 ^ t1.build.dataBits ≤ 2 * 2 ^ 63 ∧
      2 ^ 63 = { t1 with din := 2 ^ 63 }.din % 2 ^ t1.build.dataBits := by decide +kernel

/-- The hypotheses on registers of `AddSubMulAreModular`, `FpowRaisesToDin`, `ComparisonsAnswerOnDout` and
`StoreAndMoveRegister`. -/
theorem witness_registers_hold_values :
    t1run.mode = .ready ∧ t1run.f[(1 : Reg)] = some 7 ∧ t1run.f[(2 : Reg)] = some 9 := by decide +kernel

theorem witness_FinvIsFermatPower :
    t1run.mode = .ready ∧ t1run.f[(1 : Reg)] = some 7 ∧ t1run.f[(3 : Reg)] = some 0 := by decide +kernel

theorem witness_FieldRoundTrips :
    t1run.mode = .ready ∧ (1 : Reg) ≠ 4 ∧ t1run.f[(1 : Reg)] = some 7 ∧ 7 < t1run.p ∧ 2 ≤ t1run.p ∧
      t1run.p < 2 ^ t1run.build.dataBits ∧ { t1run with din := 4 }.din = t1run.p - 7 := by decide +kernel

theorem t1run_p_prime : t1run.p.Prime := by
  have h : t1run.p = 11 := rfl
  rw [h]
  norm_num

theorem witness_FieldCommandsStayInRange :
    2 ≤ t1run.p ∧ t1run.mode = .ready ∧ (∀ (r : Reg) (v : Nat), t1run.f[r] = some v → v < t1run.p) ∧
      (∀ j v, t1run.sAt j = some v → v < t1run.p) ∧ ∃ t, exec (.sget 5 3) t1run = .next t := by
  refine ⟨by decide +kernel, rfl, ?_, ?_, next_of_isSome (by decide +kernel)⟩
  · have h : ∀ r : Reg, (t1run.f[r]).all (fun v => decide (v < t1run.p)) = true := by decide +kernel
    intro r v hv
    simpa [hv] using h r
  · have h : ∀ j < 4, (t1run.sAt j).all (fun v => decide (v < t1run.p)) = true := by decide +kernel
    intro j v hv
    by_cases hj : j < 4
    · simpa [hv] using h j hj
    · have hs : t1run.sv = [some 1, some 2, some 3, some 4] := by decide +kernel
      rw [State.sAt, hs, List.getD_eq_getElem?_getD] at hv
      simp [List.getElem?_eq_none (l := [some 1, some 2, some 3, some 4]) (i := j) (by simp; omega)] at hv

theorem witness_StateElementAccess :
    t1run.mode = .ready ∧ 3 < t1run.m ∧ t1run.sAt 3 = some 4 ∧ t1run.f[(2 : Reg)] = some 9 ∧ t1run.m ≤ 4 := by
  decide +kernel

/-- The hypotheses on the vector of `SboxesRaiseEveryElement`, `InverseSboxUndoesForward`, `MdsmulIsMatrixVectorProduct`,
`ArcAddsConstantVector`, `PstepIsOneHalfRound` and `PermIsPinitAndPsteps`, the last index of the constants, and a complete
permutation. -/
theorem witness_vector_holds_values :
    t1run.mode = .ready ∧ t1run.VecIs [1, 2, 3, 4] ∧ (∀ x ∈ [1, 2, 3, 4], x < t1run.p) ∧ 3 < 2 * t1run.n ∧
      2 * t1run.n ≤ 4 ∧ (t1run.setHrc 3).hrc < 2 * t1run.n ∧ 2 * t1run.n ≤ (t1run.setHrc 4).hrc := by
  decide +kernel

theorem witness_InverseSboxUndoesForward :
    t1run.p.Prime ∧ 1 ≤ t1run.alpha ∧ 1 ≤ t1run.ainv ∧ t1run.alpha * t1run.ainv ≡ 1 [MOD t1run.p - 1] :=
  ⟨t1run_p_prime, by decide +kernel, by decide +kernel, by decide +kernel⟩

/-- The cases of `HabsAbsorbsInteger` and `HabsrAbsorbsRegister`: the block goes on, the block is filled, no open call. -/
theorem witness_HabsAbsorbsInteger :
    t1open.mode = .ready ∧ t1open.hopen = true ∧ t1open.VecIs [1, 2, 3, 4] ∧ t1open.abspos < t1open.m ∧
      t1open.f[(1 : Reg)] = some 7 ∧ t1open.abspos + 1 = t1open.rate ∧
      (t1open.setAbspos 0).abspos + 1 ≠ t1open.rate ∧ t1run.hopen = false := by
  decide +kernel

theorem witness_HfinLatchesDigest :
    t1open.mode = .ready ∧ t1open.hopen = true ∧ t1open.hany = true ∧ t1open.VecIs [1, 2, 3, 4] ∧ 4 ≤ t1open.m ∧
      t1open.abspos ≠ 0 ∧ (t1open.setAbspos 0).abspos = 0 ∧ t1run.hopen = false ∧
      (t1open.setHany false).hopen = true ∧ (t1open.setHany false).hany = false := by
  decide +kernel

theorem witness_HsqzReadsDigest :
    t1digest.mode = .ready ∧ t1digest.dvalid = true ∧ t1digest.dg[3] = 0 ∧ t1run.dvalid = false := by
  decide +kernel

theorem witness_HashCallAnswersRescueHash :
    Inv t1hash ∧ t1hash.mode = .ready ∧ [2 ^ 64 - 1] ≠ ([] : List Nat) ∧
      (∀ x ∈ [2 ^ 64 - 1], x < 2 ^ t1hash.build.dataBits) ∧ t1hash.inputs = hashCall [2 ^ 64 - 1] ++ [] :=
  ⟨t1hash_inv, rfl, by decide, by decide +kernel, by decide +kernel⟩

theorem witness_PmdsAppendsMatrixEntry :
    t1cfg.mode = .unconf ∧ (t1cfg.setMds [] 15).mdsCnt < t1cfg.build.mMax * t1cfg.build.mMax ∧
      t1loaded.build.mMax * t1loaded.build.mMax ≤ t1loaded.mdsCnt := by
  decide +kernel

theorem witness_PrckAppendsConstant :
    t1cfg.mode = .unconf ∧ (t1cfg.setRc [] 15).rcCnt < 2 * t1cfg.build.nMax * t1cfg.build.mMax ∧
      2 * t1loaded.build.nMax * t1loaded.build.mMax ≤ t1loaded.rcCnt := by
  decide +kernel

/-- A store that passes every check of R90, and one that fails one. -/
theorem witness_PcommitValidatesAndLocks :
    t1loaded.mode = .unconf ∧ t1loaded.paramsOk = true ∧ { t1loaded with rate := 5 }.paramsOk = false := by
  decide +kernel

theorem witness_ParameterReadsAnswerEntries :
    t1.mode ≠ .fatal ∧ [t1.p, t1.m, t1.n, t1.alpha, t1.ainv, t1.rate][5]? = some 2 ∧ 15 < t1.mdsCnt ∧
      15 < t1.build.mMax * t1.build.mMax ∧ t1.mdsBuf[15]? = some 6 ∧ t1.mdsCnt ≤ 16 ∧ 15 < t1.rcCnt ∧
      15 < 2 * t1.build.nMax * t1.build.mMax ∧ t1.rcBuf[15]? = some 8 ∧ t1.rcCnt ≤ 16 := by
  decide +kernel

/-- A load that interleaves the three streams and writes one register twice. -/
theorem witness_LoadDependsOnStreamsAlone :
    t1cfg.mode = .unconf ∧ t1cfg.mdsBuf = [] ∧ t1cfg.rcBuf = [] ∧ t1cfg.mdsCnt = 0 ∧ t1cfg.rcCnt = 0 ∧
      ∀ c ∈ [(Instr.pmds, 1), (.pcfg 0, 7), (.prck, 2), (.pcfg 0, 11), (.pmds, 3)],
        c.1 = .pmds ∨ c.1 = .prck ∨ ∃ sel, c.1 = .pcfg sel := by
  refine ⟨rfl, rfl, rfl, rfl, rfl, ?_⟩
  intro c hc
  simp at hc
  rcases hc with rfl | rfl | rfl | rfl | rfl <;> simp

theorem witness_UnwrittenReadIsFault :
    t1run.mode = .ready ∧ t1run.f[(15 : Reg)] = none ∧ 3 < t1run.m ∧ t1open.f[(15 : Reg)] = none ∧
      t1open.hopen = true ∧ t1.mode = .ready ∧ 3 < t1.m ∧ t1.sAt 3 = none ∧ 3 < 2 * t1.n ∧ t1.hrc < 2 * t1.n := by
  decide +kernel

/-- A core whose next command is a reset, one with nothing presented, and one about to read a register that holds no value. -/
def cores3 : List State :=
  [{ t1hash with inputs := [.reset] }, State.reset, { t1run with inputs := [.command 0x1A000000 0] }]

/-- Each case of `CoresAreIndependent`: a core beyond the list, a step that goes on, a step that is a fault, and a schedule
that leaves out the core that would stop. -/
theorem witness_CoresAreIndependent :
    cores3.length ≤ 3 ∧ (∃ s, cores3[0]? = some s ∧ ∃ t, step s = .next t) ∧
      (∃ s, cores3[2]? = some s ∧ step s = .fault .uninitRead) ∧
      ∃ ends : List State, ends.length = cores3.length ∧
        ∀ (k : Nat) (s t : State), cores3[k]? = some s → ends[k]? = some t → Sys2Proof.core.run ([1, 0, 1].count k) s = .next t := by
  refine ⟨by decide +kernel, ⟨_, rfl, _, rfl⟩, ⟨_, rfl, rfl⟩,
    [State.resetOf ⟨64, 4, 2⟩, State.reset, { t1run with inputs := [.command 0x1A000000 0] }], rfl, ?_⟩
  intro k s t hs ht
  match k with
  | 0 | 1 | 2 => cases hs; cases ht; rfl
  | _ + 3 => cases hs

/-- The statements with no hypothesis on the state but its mode: `ZeroAndRestart`, `HinitOpensCall`, `PclearEmptiesStore`,
and `PcfgWritesConfiguration` with its last and its first refused selector. -/
theorem witness_modes :
    t1.mode = .ready ∧ t1cfg.mode = .unconf ∧ { t1cfg with din := 2 ^ 64 - 1 }.din % 2 ^ t1cfg.build.dataBits = 2 ^ 64 - 1 ∧
      (nextOf (exec (.pcfg 5) t1cfg)).isSome = true ∧ lastOf (exec (.pcfg 6) t1cfg) = some ⟨.index, 0⟩ := by
  decide +kernel

theorem witness_FnegExpansionNegates :
    t1run.mode = .ready ∧ (4 : Reg) ≠ 3 ∧ t1run.f[(3 : Reg)] = some 0 := by decide +kernel

end Sys2Proof.Tests
end

section
/-! PROOF. Everything a command can do, said once: the values the arithmetic writes are residues, and each of the 36
commands has one of the effects of `CommandEffect`. The statements about who writes what, about ranges and about the
invariant are read off that list. -/

namespace Sys2Proof.Machine

/-! ### The arithmetic answers residues (R64 to R69, R71) -/

theorem fe_lt {p : Nat} (hp : 0 < p) (v : Int) : fe p v < p := by
  have h0 := Int.emod_nonneg v (b := (p : Int)) (by omega)
  have h1 := Int.emod_lt_of_pos v (b := (p : Int)) (by omega)
  unfold fe
  omega

theorem add_lt {p : Nat} (hp : 0 < p) (a b : Nat) : add p a b < p := Nat.mod_lt _ hp

theorem sub_lt {p : Nat} (hp : 0 < p) (a b : Nat) : sub p a b < p := fe_lt hp _

theorem mul_lt {p : Nat} (hp : 0 < p) (a b : Nat) : mul p a b < p := Nat.mod_lt _ hp

/-- The loop of R68 keeps its result a residue. -/
theorem powLoop_lt {p : Nat} (hp : 0 < p) {fuel b e r : Nat} (hr : r < p) : powLoop p fuel b e r < p := by
  induction fuel generalizing b e r with
  | zero => exact hr
  | succ fuel ih =>
    unfold powLoop
    split
    · exact hr
    · refine ih ?_
      split
      · exact mul_lt hp r b
      · exact hr

theorem pow_lt {p : Nat} (hp : 0 < p) (x e : Nat) : pow p x e < p := powLoop_lt hp (Nat.mod_lt _ hp)

theorem inv_lt {p : Nat} (hp : 0 < p) (a : Nat) : inv p a < p := pow_lt hp _ _

theorem sbox_lt {ps : Params} (hp : 0 < ps.p) (e : Nat) (t : List Nat) : ∀ x ∈ sbox ps e t, x < ps.p := by
  intro x hx
  obtain ⟨y, -, rfl⟩ := List.mem_map.mp hx
  exact pow_lt hp y e

theorem mdsMul_lt {ps : Params} (hp : 0 < ps.p) (t : List Nat) : ∀ x ∈ mdsMul ps t, x < ps.p := by
  intro x hx
  obtain ⟨i, -, rfl⟩ := List.mem_map.mp hx
  exact Nat.mod_lt _ hp

theorem addRc_lt {ps : Params} (hp : 0 < ps.p) (k : Nat) (t : List Nat) : ∀ x ∈ addRc ps k t, x < ps.p := by
  intro x hx
  obtain ⟨j, hj, rfl⟩ := List.mem_mapIdx.mp hx
  exact add_lt hp _ _

theorem halfRound_lt {ps : Params} (hp : 0 < ps.p) (t : List Nat) (h : Nat) : ∀ x ∈ halfRound ps t h, x < ps.p :=
  addRc_lt hp h _

/-- A permuted vector of residues is a vector of residues, whatever the number of half-rounds. -/
theorem permute_lt {ps : Params} (hp : 0 < ps.p) {t : List Nat} (ht : ∀ x ∈ t, x < ps.p) :
    ∀ x ∈ permute ps t, x < ps.p := by
  unfold permute
  induction List.range (2 * ps.n) generalizing t with
  | nil => exact ht
  | cons h rest ih => exact ih (halfRound_lt hp t h)

/-! ### Locations that hold residues (R20) -/

/-- Every register and state element that holds a value holds a residue of a modulus of 2 or more. -/
structure FieldRange (s : State) : Prop where
  modulus : 2 ≤ s.p
  reg : ∀ (r : Reg) (v : Nat), s.f[r] = some v → v < s.p
  elem : ∀ j v, s.sAt j = some v → v < s.p

theorem FieldRange.pos {s : State} (h : FieldRange s) : 0 < s.p := Nat.lt_of_lt_of_le (by decide) h.modulus

/-- `u` can be the next content of `S[0 … M − 1]`: it has `M` elements, residues when what was read were residues. -/
def State.FitsVec (s : State) (u : List Nat) : Prop :=
  u.length = s.m ∧ (FieldRange s → ∀ x ∈ u, x < s.p)

theorem State.VecIs.lt {s : State} {t : List Nat} (ht : s.VecIs t) (hf : FieldRange s) : ∀ x ∈ t, x < s.p := by
  intro x hx
  obtain ⟨j, hj, rfl⟩ := List.mem_iff_getElem.mp hx
  refine hf.elem j _ ?_
  rw [ht.2 j (ht.1 ▸ hj), List.getD_eq_getElem _ _ hj]

theorem FieldRange.setElem {s : State} {v : Nat} (h : FieldRange s) (k : Nat) (hv : v < s.p) :
    FieldRange (s.setElem k v) where
  modulus := h.modulus
  reg := h.reg
  elem j w hw := by
    rw [State.setElem_sAt] at hw
    split at hw
    · cases hw
      exact hv
    · exact h.elem j w hw

theorem FieldRange.setVec {s : State} {u : List Nat} (h : FieldRange s) (hu : ∀ x ∈ u, x < s.p) :
    FieldRange (s.setVec u) where
  modulus := h.modulus
  reg := h.reg
  elem j w hw := by
    rw [State.setVec_sAt] at hw
    split at hw
    · next hj =>
      cases hw
      exact hu _ (List.getD_eq_getElem u 0 hj ▸ List.getElem_mem hj)
    · exact h.elem j w hw

theorem State.mapVec_fits {s s' : State} {layer : List Nat → List Nat} (h : s.mapVec layer = some s')
    (hl : ∀ t, t.length = s.m → (layer t).length = s.m) (hr : 0 < s.p → ∀ t, ∀ x ∈ layer t, x < s.p) :
    ∃ u, s.FitsVec u ∧ s' = s.setVec u := by
  obtain ⟨t, ht, rfl⟩ := State.mapVec_eq_some.mp h
  exact ⟨layer t, ⟨hl t ht.1, fun hf => hr hf.pos t⟩, rfl⟩

theorem State.permuted_fits {s s' : State} (h : s.permuted = some s') :
    ∃ u, s.FitsVec u ∧ s' = (s.setVec u).setHrc (2 * s.n) := by
  obtain ⟨t, ht, rfl⟩ := State.permuted_eq_some.mp h
  exact ⟨_, ⟨permute_length ht.1, fun hf => permute_lt hf.pos (ht.lt hf)⟩, rfl⟩

/-! ### The effects of the commands -/

/-- The commands that write a scalar register (R23, R36). -/
def Instr.WritesReg (i : Instr) : Prop :=
  (∃ fd, i = .fldu fd ∨ i = .flds fd) ∨ (∃ fd fa, i = .fmv fd fa ∨ i = .fpow fd fa ∨ i = .finv fd fa) ∨
    (∃ fd fa fb, i = .fadd fd fa fb ∨ i = .fsub fd fa fb ∨ i = .fmul fd fa fb) ∨ ∃ fd k, i = .sget fd k

/-- Everything the command `i` can do to `s`, one constructor per shape of write. Each carries the command, the check of
the mode and of the operands behind it, and the range of what is written. -/
inductive CommandEffect (i : Instr) (s : State) : State → Prop where
  /-- A non-fatal error, which changes nothing (R127, R143). -/
  | error (e : Status) (he : e ≠ .ok) (hf : e.isFatal = false) : CommandEffect i s (s.respond e 0)
  /-- A read, or `NOP` (R45). -/
  | answer (v : Nat) (hv : Inv s → v < 2 ^ s.build.dataBits) : CommandEffect i s (s.respond .ok v)
  /-- A write of a scalar register (R23). -/
  | reg (fd : Reg) (v : Nat) (hm : s.mode = .ready) (hi : Instr.WritesReg i) (hv : FieldRange s → v < s.p) :
      CommandEffect i s ((s.setReg fd v).respond .ok 0)
  /-- `SPUT` (R102). -/
  | elem (fa : Reg) (k v : Nat) (hm : s.mode = .ready) (hi : i = .sput fa k) (hv : FieldRange s → v < s.p) :
      CommandEffect i s ((s.setElem k v).respond .ok 0)
  /-- `SZERO` and the layers (R103 to R107). -/
  | layer (u : List Nat) (hm : s.mode = .ready)
      (hi : i = .szero ∨ i = .sboxf ∨ i = .sboxi ∨ i = .mdsmul ∨ ∃ k, i = .arc k) (hu : s.FitsVec u) :
      CommandEffect i s ((s.setVec u).respond .ok 0)
  /-- `PINIT` (R109). -/
  | restarted (hm : s.mode = .ready) (hi : i = .pinit) : CommandEffect i s ((s.setHrc 0).respond .ok 0)
  /-- `PSTEP` and `PERM` (R110, R111). -/
  | rounds (u : List Nat) (h : Nat) (hm : s.mode = .ready) (hi : i = .pstep ∨ i = .perm) (hu : s.FitsVec u)
      (hh : h ≤ 2 * s.n) : CommandEffect i s (((s.setVec u).setHrc h).respond .ok 0)
  /-- `HINIT` (R116). -/
  | opened (u : List Nat) (hm : s.mode = .ready) (hi : i = .hinit) (hu : s.FitsVec u) :
      CommandEffect i s
        ((((((s.setVec u).setAbspos 0).setHany false).setHopen true).setDvalid false).respond .ok 0)
  /-- An absorption that leaves the block incomplete (R117). -/
  | absorbed (v : Nat) (hm : s.mode = .ready) (hi : i = .habs ∨ ∃ fa, i = .habsr fa) (ho : s.hopen = true)
      (hr : s.abspos + 1 ≠ s.rate) (hv : FieldRange s → v < s.p) :
      CommandEffect i s ((((s.setElem s.abspos v).setHany true).setAbspos (s.abspos + 1)).respond .ok 0)
  /-- An absorption that fills the block, with the permutation that follows (R117). -/
  | blockDone (v : Nat) (u : List Nat) (hm : s.mode = .ready) (hi : i = .habs ∨ ∃ fa, i = .habsr fa)
      (ho : s.hopen = true) (hv : FieldRange s → v < s.p) (hu : s.FitsVec u) :
      CommandEffect i s
        ((((((s.setElem s.abspos v).setHany true).setVec u).setHrc (2 * s.n)).setAbspos 0).respond .ok 0)
  /-- `HFIN` after a whole number of blocks (R120). -/
  | closed (a b c d : Nat) (hm : s.mode = .ready) (hi : i = .hfin) (hp : s.abspos = 0)
      (hd : FieldRange s → a < s.p ∧ b < s.p ∧ c < s.p ∧ d < s.p) :
      CommandEffect i s ((((s.setDigest a b c d).setDvalid true).setHopen false).respond .ok 0)
  /-- `HFIN` with an incomplete last block, padded and permuted (R120). -/
  | padClosed (u : List Nat) (a b c d : Nat) (hm : s.mode = .ready) (hi : i = .hfin) (hu : s.FitsVec u)
      (hd : FieldRange s → a < s.p ∧ b < s.p ∧ c < s.p ∧ d < s.p) :
      CommandEffect i s
        (((((((s.setVec u).setHrc (2 * s.n)).setAbspos 0).setDigest a b c d).setDvalid true).setHopen
          false).respond .ok 0)
  /-- `PCFG` (R87). -/
  | config (sel v : Nat) (s' : State) (hm : s.mode = .unconf) (hi : i = .pcfg sel)
      (hv : v < 2 ^ s.build.dataBits) (hs : s.setCfg sel v = some s') : CommandEffect i s (s'.respond .ok 0)
  /-- `PMDS` with room in the table (R88). -/
  | mdsAppended (v : Nat) (hm : s.mode = .unconf) (hi : i = .pmds) (hv : v < 2 ^ s.build.dataBits)
      (hc : s.mdsCnt < s.build.mdsCap) :
      CommandEffect i s ((s.setMds (s.mdsBuf ++ [v]) (s.mdsCnt + 1)).respond .ok 0)
  /-- `PMDS` on a full table: the overflow mark (R88). -/
  | mdsOverflowed (hm : s.mode = .unconf) (hi : i = .pmds) (hc : s.build.mdsCap ≤ s.mdsCnt) :
      CommandEffect i s ((s.setMds s.mdsBuf (s.build.mdsCap + 1)).respond .index 0)
  /-- `PRCK` with room in the table (R89). -/
  | rcAppended (v : Nat) (hm : s.mode = .unconf) (hi : i = .prck) (hv : v < 2 ^ s.build.dataBits)
      (hc : s.rcCnt < s.build.rcCap) :
      CommandEffect i s ((s.setRc (s.rcBuf ++ [v]) (s.rcCnt + 1)).respond .ok 0)
  /-- `PRCK` on a full table: the overflow mark (R89). -/
  | rcOverflowed (hm : s.mode = .unconf) (hi : i = .prck) (hc : s.build.rcCap ≤ s.rcCnt) :
      CommandEffect i s ((s.setRc s.rcBuf (s.build.rcCap + 1)).respond .index 0)
  /-- `PCOMMIT` with valid parameters (R90). -/
  | committed (hm : s.mode = .unconf) (hi : i = .pcommit) (hp : s.paramsOk = true) :
      CommandEffect i s (s.committed.respond .ok 0)
  /-- `PCOMMIT` with invalid parameters, the one fatal error (R90, R129). -/
  | commitFailed (hm : s.mode = .unconf) (hi : i = .pcommit) : CommandEffect i s (s.raise .param)
  /-- `PCLEAR` (R91). -/
  | cleared (hm : s.mode = .unconf) (hi : i = .pclear) : CommandEffect i s (s.cleared.respond .ok 0)

/-! ### The ends of a command -/

theorem done_next {s t : State} {v : Nat} (h : done s v = .next t) : t = s.respond .ok v := by
  simpa [done] using h.symm

theorem fail_next {s t : State} {e : Status} (he : e.isFatal = false) (h : fail s e = .next t) :
    t = s.respond e 0 := by
  rw [← s.raise_of_not_fatal he]
  simpa [fail] using h.symm

theorem modeError_ne_ok {need : Need} {m : Mode} {e : Status} (h : modeError need m = some e) : e ≠ .ok := by
  cases need <;> cases m <;> simp [modeError] at h <;> subst h <;> decide

/-- A command whose rule raises a non-fatal error. -/
theorem CommandEffect.of_fail {i : Instr} {s t : State} {e : Status} (he : e ≠ .ok) (hf : e.isFatal = false)
    (h : fail s e = .next t) : CommandEffect i s t := by
  obtain rfl := fail_next hf h
  exact .error e he hf

/-- A command whose rule answers a value and changes nothing. -/
theorem CommandEffect.of_done {i : Instr} {s t : State} {v : Nat} (hv : Inv s → v < 2 ^ s.build.dataBits)
    (h : done s v = .next t) : CommandEffect i s t := by
  obtain rfl := done_next h
  exact .answer v hv

/-- The mode check of a command is an error, or passes on to the command's own rule (R144). -/
theorem CommandEffect.of_inMode {i : Instr} {need : Need} {s t : State} {rule : State → Result}
    (h : inMode need s rule = .next t)
    (hr : modeError need s.mode = none → rule s = .next t → CommandEffect i s t) : CommandEffect i s t := by
  obtain ⟨e, he, rfl⟩ | ⟨hn, h⟩ := inMode_next h
  · exact .error e (modeError_ne_ok he) (modeError_not_fatal he)
  · exact hr hn h

theorem CommandEffect.of_ready {i : Instr} {s t : State} {rule : State → Result}
    (h : inMode .ready s rule = .next t) (hr : s.mode = .ready → rule s = .next t → CommandEffect i s t) :
    CommandEffect i s t :=
  .of_inMode h fun hn => hr (by simpa using modeError_eq_none.mp hn)

theorem CommandEffect.of_unconf {i : Instr} {s t : State} {rule : State → Result}
    (h : inMode .unconf s rule = .next t) (hr : s.mode = .unconf → rule s = .next t → CommandEffect i s t) :
    CommandEffect i s t :=
  .of_inMode h fun hn => hr (by simpa using modeError_eq_none.mp hn)

end Sys2Proof.Machine
end

section
/-! PROOF. The bounds that the invariant gives, and the inversion of every command: `exec_effect`. -/

namespace Sys2Proof.Machine

/-! ### What the invariant bounds (R10, R27 to R33, R58) -/

theorem Build.mdsCap_le {b : Build} (h : b.ok = true) : b.mdsCap ≤ 65536 := by
  obtain ⟨-, -, hm, -, -⟩ := Build.ok_iff.mp h
  exact Nat.mul_le_mul hm hm

theorem Build.rcCap_le {b : Build} (h : b.ok = true) : b.rcCap ≤ 65536 := by
  obtain ⟨-, -, -, -, hr⟩ := Build.ok_iff.mp h
  exact hr

theorem Build.nMax_le {b : Build} (h : b.ok = true) : 2 * b.nMax ≤ 65536 := by
  obtain ⟨-, hm, -, -, hr⟩ := Build.ok_iff.mp h
  exact (Nat.le_mul_of_pos_right _ (by omega)).trans hr

/-- A `D`-bit word holds every 32-bit number, because `D` is at least 32 (R10). -/
theorem Inv.fits_of_lt {s : State} (h : Inv s) {v : Nat} (hv : v < 2 ^ 32) : v < 2 ^ s.build.dataBits := by
  obtain ⟨hd, -, -, -, -⟩ := Build.ok_iff.mp h.build_ok
  exact hv.trans_le (Nat.pow_le_pow_right (by decide) hd)

theorem Inv.fieldRange {s : State} (h : Inv s) (hm : s.mode = .ready) : FieldRange s := by
  have hr := h.ready hm
  obtain ⟨hp, -⟩ := State.paramsOk_iff.mp hr.params_ok
  refine ⟨hp, fun r v hv => hr.f_range v ?_, fun j v hv => hr.sv_range v ?_⟩
  · exact Vector.mem_toList_iff.mpr (hv ▸ Vector.getElem_mem r.isLt)
  · rw [State.sAt, List.getD_eq_getElem?_getD] at hv
    cases hj : s.sv[j]? with
    | none => simp [hj] at hv
    | some e =>
      obtain rfl : e = some v := by simpa [hj] using hv
      exact List.mem_of_getElem? hj

theorem Inv.residue_fits {s : State} (h : Inv s) {v : Nat} (hv : v < s.p) : v < 2 ^ s.build.dataBits :=
  hv.trans (h.cfg_fits 0 s.p rfl)

theorem tableAt_lt {buf : List Nat} {w : Nat} (hw : 0 < w) (h : ∀ v ∈ buf, v < w) (q : Nat) : tableAt buf q < w := by
  by_cases hq : q < buf.length
  · rw [tableAt, List.getD_eq_getElem _ _ hq]
    exact h _ (List.getElem_mem hq)
  · rwa [tableAt, List.getD_eq_default _ _ (by omega)]

theorem Inv.dgAt_lt {s : State} (h : Inv s) (hm : s.mode = .ready) (k : Nat) : s.dgAt k < s.p :=
  tableAt_lt (h.fieldRange hm).pos (h.ready hm).dg_range k

theorem Inv.hrc_le {s : State} (h : Inv s) : s.hrc ≤ 65536 := by
  by_cases hm : s.mode = .ready
  · obtain ⟨-, -, -, -, hn, -⟩ := State.paramsOk_iff.mp (h.ready hm).params_ok
    have := (h.ready hm).hrc_range
    have := Build.nMax_le h.build_ok
    omega
  · simp [(h.empty hm).hrc_zero]

theorem Inv.abspos_le {s : State} (h : Inv s) : s.abspos ≤ 256 := by
  by_cases hm : s.mode = .ready
  · obtain ⟨-, -, hmm, -, -, -, hrm, -⟩ := State.paramsOk_iff.mp (h.ready hm).params_ok
    obtain ⟨-, -, hmax, -⟩ := Build.ok_iff.mp h.build_ok
    have := (h.ready hm).abspos_range
    omega
  · simp [(h.empty hm).abspos_zero]

theorem Mode.code_lt (m : Mode) : m.code < 4 := by cases m <;> decide

theorem State.statusWord_lt (s : State) : s.statusWord < 2 ^ 12 := by
  have := s.mode.code_lt
  have := s.hopen.toNat_le
  have := s.hany.toNat_le
  have := s.dvalid.toNat_le
  have := s.fcause.isLt
  unfold State.statusWord
  omega

/-- Every status register fits the `D` wires of `DOUT` (R32). -/
theorem Inv.csrAt_fits {s : State} (h : Inv s) {n v : Nat} (hn : s.csrAt n = some v) : v < 2 ^ s.build.dataBits := by
  obtain ⟨-, -, hmax, -, -⟩ := Build.ok_iff.mp h.build_ok
  have hmds := h.mds_count.trans (Nat.succ_le_succ (Build.mdsCap_le h.build_ok))
  have hrc := h.rc_count.trans (Nat.succ_le_succ (Build.rcCap_le h.build_ok))
  have hnmax := Build.nMax_le h.build_ok
  unfold State.csrAt at hn
  split at hn <;> cases hn
  · exact h.fits_of_lt (s.statusWord_lt.trans (by decide))
  · exact h.fits_of_lt (h.hrc_le.trans_lt (by decide))
  · exact h.fits_of_lt (h.abspos_le.trans_lt (by decide))
  · exact h.fits_of_lt (hmds.trans_lt (by decide))
  · exact h.fits_of_lt (hrc.trans_lt (by decide))
  · exact h.fits_of_lt (hmax.trans_lt (by decide))
  · exact h.fits_of_lt (by omega)
  · exact Nat.lt_two_pow_self

theorem State.udin_lt (s : State) : s.udin < 2 ^ s.build.dataBits := (BitVec.ofNat s.build.dataBits s.din).isLt

/-! ### Commands of one shape -/

/-- A register written from two others (R77 to R79). -/
theorem CommandEffect.of_binary {i : Instr} {s t : State} {fd fa fb : Reg} {op : Nat → Nat → Nat → Nat}
    (hi : Instr.WritesReg i) (hop : ∀ {p : Nat}, 0 < p → ∀ a b, op p a b < p)
    (h : (inMode .ready s fun s => readReg s fa fun a => readReg s fb fun b =>
      done (s.setReg fd (op s.p a b)) 0) = .next t) : CommandEffect i s t := by
  refine .of_ready h fun hm h => ?_
  obtain ⟨a, -, h⟩ := readReg_next h
  obtain ⟨b, -, h⟩ := readReg_next h
  obtain rfl := done_next h
  exact .reg fd _ hm hi fun hf => hop hf.pos a b

/-- A truth value answered from two registers (R82, R83). -/
theorem CommandEffect.of_compare {i : Instr} {s t : State} {fa fb : Reg} {value : Nat → Nat → Nat}
    (hb : ∀ a b, value a b ≤ 1)
    (h : (inMode .ready s fun s => readReg s fa fun a => readReg s fb fun b => done s (value a b)) = .next t) :
    CommandEffect i s t := by
  refine .of_ready h fun _ h => ?_
  obtain ⟨a, -, h⟩ := readReg_next h
  obtain ⟨b, -, h⟩ := readReg_next h
  exact .of_done (fun hs => hs.fits_of_lt ((hb a b).trans_lt (by decide))) h

/-- A layer applied to the whole state vector (R104 to R107). -/
theorem CommandEffect.of_layer {i : Instr} {s t : State} {layer : List Nat → List Nat} (hm : s.mode = .ready)
    (hi : i = .szero ∨ i = .sboxf ∨ i = .sboxi ∨ i = .mdsmul ∨ ∃ k, i = .arc k)
    (hl : ∀ t, t.length = s.m → (layer t).length = s.m) (hr : 0 < s.p → ∀ t, ∀ x ∈ layer t, x < s.p)
    (h : (orUninit (s.mapVec layer) fun s' => done s' 0) = .next t) : CommandEffect i s t := by
  obtain ⟨s', hs', h⟩ := orUninit_next h
  obtain ⟨u, hu, rfl⟩ := State.mapVec_fits hs' hl hr
  obtain rfl := done_next h
  exact .layer u hm hi hu

/-- An absorption in an open call (R117). -/
theorem CommandEffect.of_absorb {i : Instr} {s t : State} {v : Nat} (hm : s.mode = .ready)
    (hi : i = .habs ∨ ∃ fa, i = .habsr fa) (ho : s.hopen = true)
    (h : (orUninit (s.absorb v) fun s' => done s' 0) = .next t) : CommandEffect i s t := by
  obtain ⟨s', hs', h⟩ := orUninit_next h
  obtain rfl := done_next h
  obtain ⟨x, -, ⟨hr, rfl⟩ | ⟨-, u, hu, rfl⟩⟩ := State.absorb_eq_some.mp hs'
  · exact .absorbed _ hm hi ho hr fun hf => add_lt hf.pos x v
  · obtain ⟨w, hw, rfl⟩ := State.permuted_fits hu
    have hv : FieldRange s → add s.p x v < s.p := fun hf => add_lt hf.pos x v
    exact .blockDone _ w hm hi ho hv ⟨hw.1, fun hf => hw.2 { hf.setElem s.abspos (hv hf) with }⟩

/-! ### The commands of FAU -/

variable {s t : State}

theorem execFldu_effect {fd : Reg} (h : execFldu fd s = .next t) : CommandEffect (.fldu fd) s t := by
  refine .of_ready h fun hm h => ?_
  obtain rfl := done_next h
  exact .reg fd _ hm (by simp [Instr.WritesReg]) fun hf => fe_lt hf.pos _

theorem execFlds_effect {fd : Reg} (h : execFlds fd s = .next t) : CommandEffect (.flds fd) s t := by
  refine .of_ready h fun hm h => ?_
  obtain rfl := done_next h
  exact .reg fd _ hm (by simp [Instr.WritesReg]) fun hf => fe_lt hf.pos _

theorem execFst_effect {fa : Reg} (h : execFst fa s = .next t) : CommandEffect (.fst fa) s t := by
  refine .of_ready h fun hm h => ?_
  obtain ⟨v, hv, h⟩ := readReg_next h
  exact .of_done (fun hs => hs.residue_fits ((hs.fieldRange hm).reg fa v hv)) h

theorem execFmv_effect {fd fa : Reg} (h : execFmv fd fa s = .next t) : CommandEffect (.fmv fd fa) s t := by
  refine .of_ready h fun hm h => ?_
  obtain ⟨v, hv, h⟩ := readReg_next h
  obtain rfl := done_next h
  exact .reg fd v hm (by simp [Instr.WritesReg]) fun hf => hf.reg fa v hv

theorem execFpow_effect {fd fa : Reg} (h : execFpow fd fa s = .next t) : CommandEffect (.fpow fd fa) s t := by
  refine .of_ready h fun hm h => ?_
  obtain ⟨x, -, h⟩ := readReg_next h
  obtain rfl := done_next h
  exact .reg fd _ hm (by simp [Instr.WritesReg]) fun hf => pow_lt hf.pos x _

theorem execFinv_effect {fd fa : Reg} (h : execFinv fd fa s = .next t) : CommandEffect (.finv fd fa) s t := by
  refine .of_ready h fun hm h => ?_
  obtain ⟨a, -, h⟩ := readReg_next h
  split at h
  · exact .of_fail (by decide) rfl h
  · obtain rfl := done_next h
    exact .reg fd _ hm (by simp [Instr.WritesReg]) fun hf => inv_lt hf.pos a

/-! ### The commands of the parameter store -/

theorem execPcfg_effect {sel : Nat} (h : execPcfg sel s = .next t) : CommandEffect (.pcfg sel) s t := by
  refine .of_unconf h fun hm h => ?_
  split at h
  · next s' hs' =>
    obtain rfl := done_next h
    exact .config sel _ s' hm rfl s.udin_lt hs'
  · exact .of_fail (by decide) rfl h

theorem execPmds_effect (h : execPmds s = .next t) : CommandEffect .pmds s t := by
  refine .of_unconf h fun hm h => ?_
  split at h
  · next hc =>
    obtain rfl := done_next h
    exact .mdsAppended _ hm rfl s.udin_lt hc
  · next hc =>
    obtain rfl := fail_next rfl h
    exact .mdsOverflowed hm rfl (Nat.le_of_not_lt hc)

theorem execPrck_effect (h : execPrck s = .next t) : CommandEffect .prck s t := by
  refine .of_unconf h fun hm h => ?_
  split at h
  · next hc =>
    obtain rfl := done_next h
    exact .rcAppended _ hm rfl s.udin_lt hc
  · next hc =>
    obtain rfl := fail_next rfl h
    exact .rcOverflowed hm rfl (Nat.le_of_not_lt hc)

theorem execPcommit_effect (h : execPcommit s = .next t) : CommandEffect .pcommit s t := by
  refine .of_unconf h fun hm h => ?_
  split at h
  · next hp =>
    obtain rfl := done_next h
    exact .committed hm rfl hp
  · obtain rfl : t = s.raise .param := by simpa [fail] using h.symm
    exact .commitFailed hm rfl

theorem execPclear_effect (h : execPclear s = .next t) : CommandEffect .pclear s t := by
  refine .of_unconf h fun hm h => ?_
  obtain rfl := done_next h
  exact .cleared hm rfl

theorem execPrdcfg_effect {sel : Nat} (h : execPrdcfg sel s = .next t) : CommandEffect (.prdcfg sel) s t := by
  refine .of_inMode h fun _ h => ?_
  split at h
  · next v hv => exact .of_done (fun hs => hs.cfg_fits sel v hv) h
  · exact .of_fail (by decide) rfl h

theorem execPrdmds_effect {q : Nat} (h : execPrdmds q s = .next t) : CommandEffect (.prdmds q) s t := by
  refine .of_inMode h fun _ h => ?_
  split at h
  · exact .of_fail (by decide) rfl h
  · exact .of_done (fun hs => tableAt_lt (Nat.two_pow_pos _) hs.mds_fits q) h

theorem execPrdrc_effect {q : Nat} (h : execPrdrc q s = .next t) : CommandEffect (.prdrc q) s t := by
  refine .of_inMode h fun _ h => ?_
  split at h
  · exact .of_fail (by decide) rfl h
  · exact .of_done (fun hs => tableAt_lt (Nat.two_pow_pos _) hs.rc_fits q) h

/-! ### State access and the permutation -/

theorem execSget_effect {fd : Reg} {k : Nat} (h : execSget fd k s = .next t) : CommandEffect (.sget fd k) s t := by
  refine .of_ready h fun hm h => ?_
  split at h
  · exact .of_fail (by decide) rfl h
  · obtain ⟨v, hv, h⟩ := readElem_next h
    obtain rfl := done_next h
    exact .reg fd v hm (by simp [Instr.WritesReg]) fun hf => hf.elem k v hv

theorem execSput_effect {fa : Reg} {k : Nat} (h : execSput fa k s = .next t) : CommandEffect (.sput fa k) s t := by
  refine .of_ready h fun hm h => ?_
  split at h
  · exact .of_fail (by decide) rfl h
  · obtain ⟨v, hv, h⟩ := readReg_next h
    obtain rfl := done_next h
    exact .elem fa k v hm rfl fun hf => hf.reg fa v hv

/-- The vector of zeros of `SZERO` and `HINIT` (R103, R116). -/
theorem State.fitsVec_zeros (s : State) : s.FitsVec (List.replicate s.m 0) := by
  refine ⟨List.length_replicate, fun hf x hx => ?_⟩
  rw [List.eq_of_mem_replicate hx]
  exact hf.pos

theorem execSzero_effect (h : execSzero s = .next t) : CommandEffect .szero s t := by
  refine .of_ready h fun hm h => ?_
  obtain rfl := done_next h
  exact .layer _ hm (by simp) s.fitsVec_zeros

theorem execSboxf_effect (h : execSboxf s = .next t) : CommandEffect .sboxf s t :=
  .of_ready h fun hm h =>
    .of_layer hm (by simp) (fun _ ht => by simpa using ht) (fun hp t => sbox_lt (ps := s.params) hp s.alpha t) h

theorem execSboxi_effect (h : execSboxi s = .next t) : CommandEffect .sboxi s t :=
  .of_ready h fun hm h =>
    .of_layer hm (by simp) (fun _ ht => by simpa using ht) (fun hp t => sbox_lt (ps := s.params) hp s.ainv t) h

theorem execMdsmul_effect (h : execMdsmul s = .next t) : CommandEffect .mdsmul s t :=
  .of_ready h fun hm h => .of_layer hm (by simp) (by simp) (fun hp t => mdsMul_lt (ps := s.params) hp t) h

theorem execArc_effect {k : Nat} (h : execArc k s = .next t) : CommandEffect (.arc k) s t := by
  refine .of_ready h fun hm h => ?_
  split at h
  · exact .of_fail (by decide) rfl h
  · exact .of_layer hm (by simp) (fun _ ht => by simpa using ht) (fun hp t => addRc_lt (ps := s.params) hp k t) h

theorem execPinit_effect (h : execPinit s = .next t) : CommandEffect .pinit s t := by
  refine .of_ready h fun hm h => ?_
  obtain rfl := done_next h
  exact .restarted hm rfl

theorem execPstep_effect (h : execPstep s = .next t) : CommandEffect .pstep s t := by
  refine .of_ready h fun hm h => ?_
  split at h
  · exact .of_fail (by decide) rfl h
  · next hc =>
    obtain ⟨s', hs', h⟩ := orUninit_next h
    obtain ⟨u, hu, rfl⟩ :=
      State.mapVec_fits hs' (by simp) fun hp t => halfRound_lt (ps := s.params) hp t s.hrc
    obtain rfl := done_next h
    exact .rounds u _ hm (.inl rfl) hu (by omega)

theorem execPerm_effect (h : execPerm s = .next t) : CommandEffect .perm s t := by
  refine .of_ready h fun hm h => ?_
  obtain ⟨s', hs', h⟩ := orUninit_next h
  obtain ⟨u, hu, rfl⟩ := State.permuted_fits hs'
  obtain rfl := done_next h
  exact .rounds u _ hm (.inr rfl) hu le_rfl

/-! ### The commands of the sponge -/

theorem execHinit_effect (h : execHinit s = .next t) : CommandEffect .hinit s t := by
  refine .of_ready h fun hm h => ?_
  obtain rfl := done_next h
  exact .opened _ hm rfl s.fitsVec_zeros

theorem execHabs_effect (h : execHabs s = .next t) : CommandEffect .habs s t := by
  refine .of_ready h fun hm h => ?_
  split at h
  · exact .of_fail (by decide) rfl h
  · next ho => exact .of_absorb hm (.inl rfl) (by simpa using ho) h

theorem execHabsr_effect {fa : Reg} (h : execHabsr fa s = .next t) : CommandEffect (.habsr fa) s t := by
  refine .of_ready h fun hm h => ?_
  split at h
  · exact .of_fail (by decide) rfl h
  · next ho =>
    obtain ⟨v, -, h⟩ := readReg_next h
    exact .of_absorb hm (.inr ⟨fa, rfl⟩) (by simpa using ho) h

theorem execHfin_effect (h : execHfin s = .next t) : CommandEffect .hfin s t := by
  refine .of_ready h fun hm h => ?_
  split at h
  · exact .of_fail (by decide) rfl h
  split at h
  · exact .of_fail (by decide) rfl h
  obtain ⟨s', hs', h⟩ := orUninit_next h
  obtain ⟨a, ha, h⟩ := readElem_next h
  obtain ⟨b, hb, h⟩ := readElem_next h
  obtain ⟨c, hc, h⟩ := readElem_next h
  obtain ⟨d, hd, h⟩ := readElem_next h
  obtain rfl := done_next h
  have hdigest (hf : FieldRange s') : a < s'.p ∧ b < s'.p ∧ c < s'.p ∧ d < s'.p :=
    ⟨hf.elem 0 a ha, hf.elem 1 b hb, hf.elem 2 c hc, hf.elem 3 d hd⟩
  obtain ⟨hp, rfl⟩ | ⟨-, u, hu, rfl⟩ := State.padded_eq_some.mp hs'
  · exact .closed a b c d hm rfl hp hdigest
  · obtain ⟨w, hw, rfl⟩ := State.permuted_fits hu
    exact .padClosed w a b c d hm rfl hw fun hf => hdigest { hf.setVec (hw.2 hf) with }

theorem execHsqz_effect {k : Nat} (h : execHsqz k s = .next t) : CommandEffect (.hsqz k) s t := by
  refine .of_ready h fun hm h => ?_
  split at h
  · exact .of_fail (by decide) rfl h
  split at h
  · exact .of_fail (by decide) rfl h
  · exact .of_done (fun hs => hs.residue_fits (hs.dgAt_lt hm k)) h

/-! ### The system commands -/

theorem execNop_effect (h : execNop s = .next t) : CommandEffect .nop s t :=
  .of_inMode h fun _ h => .of_done (fun _ => Nat.two_pow_pos _) h

theorem execCsrr_effect {n : Nat} (h : execCsrr n s = .next t) : CommandEffect (.csrr n) s t := by
  refine .of_inMode h fun _ h => ?_
  split at h
  · next v hv => exact .of_done (fun hs => hs.csrAt_fits hv) h
  · exact .of_fail (by decide) rfl h

/-! ### All commands -/

theorem feqValue_le_one (a b : Nat) : feqValue a b ≤ 1 := by
  unfold feqValue
  split <;> decide

theorem fltValue_le_one (a b : Nat) : fltValue a b ≤ 1 := by
  unfold fltValue
  split <;> decide

/-- A command that goes on has one of the effects of `CommandEffect`. -/
theorem exec_effect {i : Instr} (h : exec i s = .next t) : CommandEffect i s t := by
  cases i with
  | nop => exact execNop_effect h
  | csrr n => exact execCsrr_effect h
  | fadd fd fa fb => exact .of_binary (op := add) (by simp [Instr.WritesReg]) add_lt h
  | fsub fd fa fb => exact .of_binary (op := sub) (by simp [Instr.WritesReg]) sub_lt h
  | fmul fd fa fb => exact .of_binary (op := mul) (by simp [Instr.WritesReg]) mul_lt h
  | fpow fd fa => exact execFpow_effect h
  | finv fd fa => exact execFinv_effect h
  | feq fa fb => exact .of_compare (value := feqValue) feqValue_le_one h
  | flt fa fb => exact .of_compare (value := fltValue) fltValue_le_one h
  | fldu fd => exact execFldu_effect h
  | flds fd => exact execFlds_effect h
  | fst fa => exact execFst_effect h
  | fmv fd fa => exact execFmv_effect h
  | sget fd k => exact execSget_effect h
  | sput fa k => exact execSput_effect h
  | szero => exact execSzero_effect h
  | sboxf => exact execSboxf_effect h
  | sboxi => exact execSboxi_effect h
  | mdsmul => exact execMdsmul_effect h
  | arc k => exact execArc_effect h
  | pinit => exact execPinit_effect h
  | pstep => exact execPstep_effect h
  | perm => exact execPerm_effect h
  | hinit => exact execHinit_effect h
  | habs => exact execHabs_effect h
  | hfin => exact execHfin_effect h
  | hsqz k => exact execHsqz_effect h
  | habsr fa => exact execHabsr_effect h
  | pcfg sel => exact execPcfg_effect h
  | pmds => exact execPmds_effect h
  | prck => exact execPrck_effect h
  | pcommit => exact execPcommit_effect h
  | pclear => exact execPclear_effect h
  | prdcfg sel => exact execPrdcfg_effect h
  | prdmds q => exact execPrdmds_effect h
  | prdrc q => exact execPrdrc_effect h

end Sys2Proof.Machine
end

section
/-! PROOF. What the effects say about the writers of each piece of state and about the ranges of the registers, and the
statements on the reset values and on the `STATUS` word. -/

namespace Sys2Proof.Machine

/-- A write of the configuration changes nothing but the six registers (R87). -/
theorem State.setCfg_frame {s s' : State} {sel v : Nat} (h : s.setCfg sel v = some s') :
    s' = { s with p := s'.p, m := s'.m, n := s'.n, alpha := s'.alpha, ainv := s'.ainv, rate := s'.rate } := by
  obtain ⟨-, rfl⟩ | ⟨-, rfl⟩ | ⟨-, rfl⟩ | ⟨-, rfl⟩ | ⟨-, rfl⟩ | ⟨-, rfl⟩ := State.setCfg_eq_some.mp h <;> rfl

/-- Settles O17: of all effects only the two ends of `PCOMMIT` touch `MODE` or `FCAUSE`. -/
theorem onlyCommitMovesMode : Obligations.OnlyCommitMovesMode := by
  unfold Obligations.OnlyCommitMovesMode
  intro i s t h hne
  cases exec_effect h with
  | committed hm hi _ => exact ⟨hi, hm, .inl ⟨rfl, rfl, rfl⟩⟩
  | commitFailed hm hi => exact ⟨hi, hm, .inr ⟨rfl, rfl, rfl⟩⟩
  | config sel v s' _ _ _ hs => rw [State.setCfg_frame hs] at hne; simp at hne
  | cleared => simp [State.cleared] at hne
  | _ => simp at hne

/-- Settles O19: each effect changes only what its constructor writes, and names its command. -/
theorem stateHasItsWriters : Obligations.StateHasItsWriters := by
  unfold Obligations.StateHasItsWriters
  intro i s t h
  cases exec_effect h with
  | reg fd v _ hi => exact ⟨fun _ => hi, by simp⟩
  | layer u _ hi => obtain rfl | rfl | rfl | rfl | ⟨k, rfl⟩ := hi <;> simp
  | rounds u k _ hi => obtain rfl | rfl := hi <;> simp
  | absorbed v _ hi => obtain rfl | ⟨fa, rfl⟩ := hi <;> simp
  | blockDone v u _ hi => obtain rfl | ⟨fa, rfl⟩ := hi <;> simp
  | config sel v s' _ hi _ hs => rw [State.setCfg_frame hs]; simp [hi]
  | committed _ hi => simp [hi, State.committed]
  | commitFailed _ hi => simp [hi, State.raise_param]
  | cleared _ hi => simp [hi, State.cleared]
  | error | answer => simp
  | elem _ _ _ _ hi | restarted _ hi | opened _ _ hi | closed _ _ _ _ _ hi | padClosed _ _ _ _ _ _ hi
  | mdsAppended _ _ hi | mdsOverflowed _ hi | rcAppended _ _ hi | rcOverflowed _ hi => simp [hi]

theorem State.setReg_reg (s : State) (fd r : Reg) (v : Nat) :
    (s.setReg fd v).f[r] = if r = fd then some v else s.f[r] := by
  simp [Vector.getElem_set, Fin.ext_iff, eq_comm]

/-- Settles O36: a register holds afterwards what it held, or the residue that the command wrote. -/
theorem fieldCommandsStayInRange : Obligations.FieldCommandsStayInRange := by
  unfold Obligations.FieldCommandsStayInRange
  intro i s t hp hm hf hv h r w hw
  cases exec_effect h with
  | reg fd v _ _ hres =>
    rw [State.respond_f, State.setReg_reg] at hw
    split at hw
    · cases hw
      exact hres ⟨hp, hf, hv⟩
    · exact hf r w hw
  | config _ _ _ hu _ _ _ => simp [hm] at hu
  | committed hu => simp [hm] at hu
  | commitFailed hu => simp [hm] at hu
  | cleared hu => simp [hm] at hu
  | _ => exact hf r w (by simpa using hw)

/-- Settles O9. -/
theorem resetStateValues : Obligations.ResetStateValues := by
  unfold Obligations.ResetStateValues
  intro b
  simp [State.resetOf, State.sAt]

/-! ### The `STATUS` word -/

theorem testBit_eq_of_div_mod {v k : Nat} {b : Bool} (h : v / 2 ^ k % 2 = b.toNat) : v.testBit k = b := by
  cases b <;> simp_all [Nat.testBit_eq_decide_div_mod_eq]

/-- Settles O27: the sum of R126 has its terms in separate bit ranges. -/
theorem statusWordFields : Obligations.StatusWordFields := by
  unfold Obligations.StatusWordFields
  intro s
  have hmode : s.mode.code = if s.mode = .unconf then 0 else if s.mode = .ready then 1 else 2 := by
    cases s.mode <;> rfl
  have := s.mode.code_lt
  have := s.hopen.toNat_le
  have := s.hany.toNat_le
  have := s.dvalid.toNat_le
  have := s.fcause.isLt
  refine ⟨s.statusWord, rfl, ?_⟩
  rw [← hmode]
  refine ⟨?_, testBit_eq_of_div_mod ?_, testBit_eq_of_div_mod ?_, testBit_eq_of_div_mod ?_, ?_, ?_, ?_⟩ <;>
    unfold State.statusWord <;> omega

end Sys2Proof.Machine
end

section
/-! PROOF. The invariant: one rule per state operation, the state after reset, and the step. -/

namespace Sys2Proof.Machine

variable {s : State}

/-! ### The channels -/

theorem Inv.respond (h : Inv s) {st : Status} {v : Nat} (hv : v < 2 ^ s.build.dataBits) (he : st ≠ .ok → v = 0) :
    Inv (s.respond st v) :=
  { h with
    responses_ok := by
      intro r hr
      rw [State.respond_responses, List.mem_append, List.mem_singleton] at hr
      obtain hr | rfl := hr
      · exact h.responses_ok r hr
      · exact ⟨hv, he⟩
    ready := fun hm => { h.ready hm with }
    empty := fun hm => { h.empty hm with } }

/-- An answer of 0, with any status. -/
theorem Inv.respond_zero (h : Inv s) (st : Status) : Inv (s.respond st 0) :=
  h.respond (Nat.two_pow_pos _) fun _ => rfl

theorem Inv.present (h : Inv s) (din : Nat) (rest : List HostInput) : Inv (s.present din rest) :=
  { h with ready := fun hm => { h.ready hm with }, empty := fun hm => { h.empty hm with } }

/-! ### Writes in mode `READY` -/

theorem Inv.setReg (h : Inv s) (hm : s.mode = .ready) (fd : Reg) {v : Nat} (hv : v < s.p) : Inv (s.setReg fd v) :=
  { h with
    ready := fun _ => { h.ready hm with
      f_range := by
        intro w hw
        obtain ⟨k, hk, hkw⟩ := Vector.mem_iff_getElem.mp (Vector.mem_toList_iff.mp hw)
        change (s.setReg fd v).f[(⟨k, hk⟩ : Reg)] = some w at hkw
        rw [State.setReg_reg] at hkw
        split at hkw
        · cases hkw
          exact hv
        · exact (h.fieldRange hm).reg _ w hkw }
    empty := fun hne => absurd hm hne }

theorem Inv.setElem (h : Inv s) (hm : s.mode = .ready) (k : Nat) {v : Nat} (hv : v < s.p) : Inv (s.setElem k v) :=
  { h with
    sv_length := List.length_set.trans h.sv_length
    ready := fun _ => { h.ready hm with
      sv_range := by
        intro w hw
        obtain hw | hw := List.mem_or_eq_of_mem_set hw
        · exact (h.ready hm).sv_range w hw
        · cases hw
          exact hv
      open_filled := by
        intro ho j hj
        rw [State.setElem_sAt]
        split
        · rfl
        · exact (h.ready hm).open_filled ho j hj }
    empty := fun hne => absurd hm hne }

theorem Inv.m_le (h : Inv s) (hm : s.mode = .ready) : s.m ≤ s.sv.length := by
  obtain ⟨-, -, hle, -⟩ := State.paramsOk_iff.mp (h.ready hm).params_ok
  exact h.sv_length ▸ hle

theorem State.setVec_filled {u : List Nat} (hu : s.FitsVec u) : ∀ j < s.m, ((s.setVec u).sAt j).isSome := by
  intro j hj
  rw [State.setVec_sAt, if_pos (hu.1 ▸ hj)]
  rfl

theorem Inv.setVec (h : Inv s) (hm : s.mode = .ready) {u : List Nat} (hu : s.FitsVec u) : Inv (s.setVec u) :=
  { h with
    sv_length := (State.setVec_length (hu.1 ▸ h.m_le hm)).trans h.sv_length
    ready := fun _ => { h.ready hm with
      sv_range := by
        intro w hw
        rw [State.setVec_sv, List.mem_append] at hw
        obtain hw | hw := hw
        · obtain ⟨x, hx, rfl⟩ : ∃ x ∈ u, x = w := by simpa using hw
          exact hu.2 (h.fieldRange hm) x hx
        · exact (h.ready hm).sv_range w (List.mem_of_mem_drop hw)
      open_filled := fun _ => State.setVec_filled hu }
    empty := fun hne => absurd hm hne }

theorem Inv.setHrc (h : Inv s) (hm : s.mode = .ready) {k : Nat} (hk : k ≤ 2 * s.n) : Inv (s.setHrc k) :=
  { h with ready := fun _ => { h.ready hm with hrc_range := hk }, empty := fun hne => absurd hm hne }

theorem Inv.setHany (h : Inv s) (hm : s.mode = .ready) {b : Bool} (hb : s.abspos ≠ 0 → b = true) :
    Inv (s.setHany b) :=
  { h with
    ready := fun _ => { h.ready hm with abspos_open := fun hne => ⟨((h.ready hm).abspos_open hne).1, hb hne⟩ }
    empty := fun hne => absurd hm hne }

theorem Inv.setHopen (h : Inv s) (hm : s.mode = .ready) {b : Bool} (hp : s.abspos ≠ 0 → b = true)
    (hfull : b = true → ∀ j < s.m, (s.sAt j).isSome) (hd : b = true → s.dvalid = false) : Inv (s.setHopen b) :=
  { h with
    ready := fun _ => { h.ready hm with
      abspos_open := fun hne => ⟨hp hne, ((h.ready hm).abspos_open hne).2⟩
      open_filled := hfull
      open_not_valid := hd }
    empty := fun hne => absurd hm hne }

theorem Inv.setDvalid (h : Inv s) (hm : s.mode = .ready) {b : Bool} (hb : s.hopen = true → b = false) :
    Inv (s.setDvalid b) :=
  { h with ready := fun _ => { h.ready hm with open_not_valid := hb }, empty := fun hne => absurd hm hne }

theorem Inv.setDigest (h : Inv s) (hm : s.mode = .ready) {a b c d : Nat}
    (hd : a < s.p ∧ b < s.p ∧ c < s.p ∧ d < s.p) : Inv (s.setDigest a b c d) :=
  { h with
    ready := fun _ => { h.ready hm with
      dg_range := by
        obtain ⟨ha, hb, hc, hd⟩ := hd
        intro v hv
        obtain rfl | rfl | rfl | rfl : v = a ∨ v = b ∨ v = c ∨ v = d := by simpa using hv
        all_goals assumption }
    empty := fun hne => absurd hm hne }

/-- Inside an open block the position moves freely below `RATE` (R28). -/
theorem Inv.setAbspos (h : Inv s) (hm : s.mode = .ready) {k : Nat} (hk : k < s.rate)
    (ho : k ≠ 0 → s.hopen = true ∧ s.hany = true) : Inv (s.setAbspos k) :=
  { h with
    ready := fun _ => { h.ready hm with abspos_range := hk, abspos_open := ho }
    empty := fun hne => absurd hm hne }

theorem Inv.rate_pos (h : Inv s) (hm : s.mode = .ready) : 0 < s.rate := by
  obtain ⟨-, -, -, -, -, hrate, -⟩ := State.paramsOk_iff.mp (h.ready hm).params_ok
  exact hrate

theorem Inv.setAbspos_zero (h : Inv s) (hm : s.mode = .ready) : Inv (s.setAbspos 0) :=
  h.setAbspos hm (h.rate_pos hm) fun hne => absurd rfl hne

/-- The end of a block: the vector permuted, `HRC = 2·N`, and the next block not begun (R100, R117, R120). -/
theorem Inv.endBlock (h : Inv s) (hm : s.mode = .ready) {u : List Nat} (hu : s.FitsVec u) :
    Inv (((s.setVec u).setHrc (2 * s.n)).setAbspos 0) :=
  ((h.setVec hm hu).setHrc hm le_rfl).setAbspos_zero hm

theorem State.setDvalid_setHopen (s : State) (v b : Bool) :
    (s.setHopen b).setDvalid v = (s.setDvalid v).setHopen b := rfl

/-- The writes of `HINIT` after the vector is filled: a new call is open and empty (R116). `DVALID` is cleared last, and
could as well be cleared before the call opens. -/
theorem Inv.openCall (h : Inv s) (hm : s.mode = .ready) (hfull : ∀ j < s.m, (s.sAt j).isSome) :
    Inv ((((s.setAbspos 0).setHany false).setHopen true).setDvalid false) := by
  have hpos : Inv (s.setAbspos 0) := h.setAbspos_zero hm
  have hany : Inv ((s.setAbspos 0).setHany false) := hpos.setHany hm fun hne => absurd rfl hne
  have hvalid : Inv (((s.setAbspos 0).setHany false).setDvalid false) := hany.setDvalid hm fun _ => rfl
  rw [State.setDvalid_setHopen]
  exact hvalid.setHopen hm (fun _ => rfl) (fun _ => hfull) fun _ => rfl

/-- The writes of `HFIN` at a block boundary: the digest is latched and the call is closed (R120). The call could as well
be closed before the digest becomes valid. -/
theorem Inv.closeCall (h : Inv s) (hm : s.mode = .ready) (hp : s.abspos = 0) {a b c d : Nat}
    (hd : a < s.p ∧ b < s.p ∧ c < s.p ∧ d < s.p) :
    Inv (((s.setDigest a b c d).setDvalid true).setHopen false) := by
  have hdigest : Inv (s.setDigest a b c d) := h.setDigest hm hd
  have hclosed : Inv ((s.setDigest a b c d).setHopen false) :=
    hdigest.setHopen hm (fun hne => absurd hp hne) (fun ho => nomatch ho) fun ho => nomatch ho
  rw [← State.setDvalid_setHopen]
  exact hclosed.setDvalid hm fun ho => nomatch ho

/-! ### Writes in mode `UNCONF` -/

theorem Mode.unconf_not_ready {m : Mode} (h : m = .unconf) : m ≠ .ready := by
  subst h
  decide

/-- A configuration register reads back as it was written, and the others keep their values (R38, R87). -/
theorem State.setCfg_cfgAt {s' : State} {sel v : Nat} (h : s.setCfg sel v = some s') (k : Nat) :
    s'.cfgAt k = if k = sel then some v else s.cfgAt k := by
  obtain ⟨rfl, rfl⟩ | ⟨rfl, rfl⟩ | ⟨rfl, rfl⟩ | ⟨rfl, rfl⟩ | ⟨rfl, rfl⟩ | ⟨rfl, rfl⟩ := State.setCfg_eq_some.mp h <;>
    rcases k with _ | _ | _ | _ | _ | _ | k <;> simp [State.cfgAt]

theorem Inv.setCfg (h : Inv s) (hm : s.mode = .unconf) {s' : State} {sel v : Nat} (hv : v < 2 ^ s.build.dataBits)
    (hs : s.setCfg sel v = some s') : Inv s' := by
  have hcfg : ∀ k w, s'.cfgAt k = some w → w < 2 ^ s.build.dataBits := by
    intro k w hk
    rw [State.setCfg_cfgAt hs] at hk
    split at hk
    · cases hk
      exact hv
    · exact h.cfg_fits k w hk
  have hne := Mode.unconf_not_ready hm
  rw [State.setCfg_frame hs] at hcfg ⊢
  exact { h with cfg_fits := hcfg, ready := fun hr => absurd hr hne, empty := fun _ => { h.empty hne with } }

/-- `MDSBUF` and its counter, written while no set is committed (R31). -/
theorem Inv.setMds (h : Inv s) (hm : s.mode = .unconf) {buf : List Nat} {cnt : Nat}
    (hl : buf.length = min cnt s.build.mdsCap) (hc : cnt ≤ s.build.mdsCap + 1)
    (hb : ∀ v ∈ buf, v < 2 ^ s.build.dataBits) : Inv (s.setMds buf cnt) :=
  { h with
    mds_length := hl
    mds_count := hc
    mds_fits := hb
    ready := fun hr => absurd hr (Mode.unconf_not_ready hm)
    empty := fun hne => { h.empty hne with } }

/-- `RCBUF` and its counter, written while no set is committed (R31). -/
theorem Inv.setRc (h : Inv s) (hm : s.mode = .unconf) {buf : List Nat} {cnt : Nat}
    (hl : buf.length = min cnt s.build.rcCap) (hc : cnt ≤ s.build.rcCap + 1)
    (hb : ∀ v ∈ buf, v < 2 ^ s.build.dataBits) : Inv (s.setRc buf cnt) :=
  { h with
    rc_length := hl
    rc_count := hc
    rc_fits := hb
    ready := fun hr => absurd hr (Mode.unconf_not_ready hm)
    empty := fun hne => { h.empty hne with } }

/-- A table with one entry appended still holds only what fits. -/
theorem forall_lt_concat {buf : List Nat} {v w : Nat} (hb : ∀ x ∈ buf, x < w) (hv : v < w) :
    ∀ x ∈ buf ++ [v], x < w := by
  simpa [or_imp, forall_and] using ⟨hb, hv⟩

/-- A table that is not full grows with its counter (R31). -/
theorem length_concat_eq_min {buf : List Nat} {v cnt cap : Nat} (hl : buf.length = min cnt cap) (hc : cnt < cap) :
    (buf ++ [v]).length = min (cnt + 1) cap := by
  rw [List.length_append, List.length_singleton]
  omega

/-- Reducing the entries of a table makes none larger (R90). -/
theorem forall_lt_map_mod {buf : List Nat} {w : Nat} (p : Nat) (hb : ∀ x ∈ buf, x < w) :
    ∀ x ∈ buf.map (· % p), x < w := by
  intro x hx
  obtain ⟨y, hy, rfl⟩ := List.mem_map.mp hx
  exact (Nat.mod_le y p).trans_lt (hb y hy)

theorem forall_map_mod_lt {p : Nat} (hp : 0 < p) (buf : List Nat) : ∀ x ∈ buf.map (· % p), x < p := by
  intro x hx
  obtain ⟨y, -, rfl⟩ := List.mem_map.mp hx
  exact Nat.mod_lt y hp

/-- What valid parameters and an empty core make of the mode `READY` (R90). -/
theorem EmptyInv.committed (h : EmptyInv s) (hok : s.paramsOk = true) : ReadyInv s.committed := by
  obtain ⟨hp, -, -, -, -, hrate, -⟩ := State.paramsOk_iff.mp hok
  have hpos : 0 < s.p := Nat.lt_of_lt_of_le (by decide) hp
  have hclosed : s.hopen ≠ true := by simp [h.hopen_false]
  exact {
    params_ok := hok
    mds_reduced := forall_map_mod_lt hpos s.mdsBuf
    rc_reduced := forall_map_mod_lt hpos s.rcBuf
    f_range := fun v hv => nomatch h.f_empty _ hv
    sv_range := fun v hv => nomatch h.sv_empty _ hv
    dg_range := fun v hv => h.dg_zero v hv ▸ hpos
    hrc_range := h.hrc_zero.trans_le (Nat.zero_le _)
    abspos_range := h.abspos_zero.trans_lt hrate
    abspos_open := fun hne => absurd h.abspos_zero hne
    open_filled := fun ho => absurd ho hclosed
    open_not_valid := fun ho => absurd ho hclosed }

theorem Inv.committed (h : Inv s) (hm : s.mode = .unconf) (hok : s.paramsOk = true) : Inv s.committed :=
  { h with
    mds_length := (List.length_map _).trans h.mds_length
    rc_length := (List.length_map _).trans h.rc_length
    mds_fits := forall_lt_map_mod s.p h.mds_fits
    rc_fits := forall_lt_map_mod s.p h.rc_fits
    fcause_mode := by simpa [hm, State.committed] using h.fcause_mode
    ready := fun _ => (h.empty (Mode.unconf_not_ready hm)).committed hok
    empty := fun hne => absurd rfl hne }

/-- The failing commit: `FATAL` with `FCAUSE = 9`, nothing else written (R129). -/
theorem Inv.raise_param (h : Inv s) (hm : s.mode = .unconf) : Inv (s.raise .param) := by
  have hfatal : Inv { s with mode := .fatal, fcause := 9 } :=
    { h with
      fcause_mode := rfl
      ready := fun hr => nomatch hr
      empty := fun _ => { h.empty (Mode.unconf_not_ready hm) with } }
  rw [State.raise_param]
  exact hfatal.respond_zero .param

/-- Six configuration registers that hold 0 hold what fits. -/
theorem State.cfgAt_lt_of_zero {w : Nat} (hw : 0 < w)
    (h0 : s.p = 0 ∧ s.m = 0 ∧ s.n = 0 ∧ s.alpha = 0 ∧ s.ainv = 0 ∧ s.rate = 0) (sel v : Nat)
    (hv : s.cfgAt sel = some v) : v < w := by
  obtain ⟨hp, hm, hn, halpha, hainv, hrate⟩ := h0
  unfold State.cfgAt at hv
  split at hv <;> simp_all

theorem Inv.cleared (h : Inv s) (hm : s.mode = .unconf) : Inv s.cleared := by
  have hcfg : Inv { s with p := 0, m := 0, n := 0, alpha := 0, ainv := 0, rate := 0 } :=
    { h with
      cfg_fits := State.cfgAt_lt_of_zero (Nat.two_pow_pos _) ⟨rfl, rfl, rfl, rfl, rfl, rfl⟩
      ready := fun hr => absurd hr (Mode.unconf_not_ready hm)
      empty := fun hne => { h.empty hne with } }
  have hmds := hcfg.setMds hm (buf := []) (cnt := 0) (by simp) (Nat.zero_le _) (by simp)
  exact hmds.setRc hm (by simp) (Nat.zero_le _) (by simp)

/-! ### Reset -/

/-- The empty core of R36. -/
theorem emptyInv_resetOf (b : Build) : EmptyInv (State.resetOf b) where
  f_empty := by simp [State.resetOf]
  sv_empty := fun _ he => List.eq_of_mem_replicate he
  dg_zero := by simp [State.resetOf]
  hrc_zero := rfl
  hopen_false := rfl
  hany_false := rfl
  abspos_zero := rfl
  dvalid_false := rfl

/-- Settles O21. -/
theorem resetMeetsInvariant : Obligations.ResetMeetsInvariant := by
  unfold Obligations.ResetMeetsInvariant
  intro b hb
  exact {
    build_ok := hb
    cfg_fits := State.cfgAt_lt_of_zero (Nat.two_pow_pos _) ⟨rfl, rfl, rfl, rfl, rfl, rfl⟩
    mds_length := (Nat.zero_min _).symm
    rc_length := (Nat.zero_min _).symm
    mds_count := Nat.zero_le _
    rc_count := Nat.zero_le _
    mds_fits := fun _ hv => nomatch hv
    rc_fits := fun _ hv => nomatch hv
    sv_length := List.length_replicate
    fcause_mode := rfl
    responses_ok := fun _ hr => nomatch hr
    ready := fun hr => nomatch hr
    empty := fun _ => emptyInv_resetOf b }

theorem Inv.afterReset (h : Inv s) (rest : List HostInput) : Inv (s.afterReset rest) :=
  { resetMeetsInvariant s.build h.build_ok with
    responses_ok := h.responses_ok
    ready := fun hr => nomatch hr
    empty := fun _ => { emptyInv_resetOf s.build with } }

/-! ### The step -/

/-- Every effect of a command keeps the invariant. -/
theorem CommandEffect.inv {i : Instr} {t : State} (he : CommandEffect i s t) (h : Inv s) : Inv t := by
  cases he with
  | error e _ _ => exact h.respond_zero e
  | answer v hv => exact h.respond (hv h) fun hne => absurd rfl hne
  | reg fd v hm _ hv => exact (h.setReg hm fd (hv (h.fieldRange hm))).respond_zero .ok
  | elem fa k v hm _ hv => exact (h.setElem hm k (hv (h.fieldRange hm))).respond_zero .ok
  | layer u hm _ hu => exact (h.setVec hm hu).respond_zero .ok
  | restarted hm _ => exact (h.setHrc hm (Nat.zero_le _)).respond_zero .ok
  | rounds u k hm _ hu hk => exact ((h.setVec hm hu).setHrc hm hk).respond_zero .ok
  | opened u hm _ hu => exact ((h.setVec hm hu).openCall hm (State.setVec_filled hu)).respond_zero .ok
  | absorbed v hm _ ho hr hv =>
    have hnext : s.abspos + 1 < s.rate := lt_of_le_of_ne (h.ready hm).abspos_range hr
    have hadd := (h.setElem hm s.abspos (hv (h.fieldRange hm))).setHany hm fun _ => rfl
    exact (hadd.setAbspos hm hnext fun _ => ⟨ho, rfl⟩).respond_zero .ok
  | blockDone v u hm _ _ hv hu =>
    have hadd := (h.setElem hm s.abspos (hv (h.fieldRange hm))).setHany hm fun _ => rfl
    exact (hadd.endBlock hm ⟨hu.1, fun _ => hu.2 (h.fieldRange hm)⟩).respond_zero .ok
  | closed a b c d hm _ hp hd => exact (h.closeCall hm hp (hd (h.fieldRange hm))).respond_zero .ok
  | padClosed u a b c d hm _ hu hd =>
    exact ((h.endBlock hm hu).closeCall hm rfl (hd (h.fieldRange hm))).respond_zero .ok
  | config sel v s' hm _ hv hs => exact (h.setCfg hm hv hs).respond_zero .ok
  | mdsAppended v hm _ hv hc =>
    have hlen := length_concat_eq_min (v := v) h.mds_length hc
    exact (h.setMds hm hlen (by omega) (forall_lt_concat h.mds_fits hv)).respond_zero .ok
  | mdsOverflowed hm _ hc =>
    have hlen := h.mds_length
    exact (h.setMds hm (by omega) le_rfl h.mds_fits).respond_zero .index
  | rcAppended v hm _ hv hc =>
    have hlen := length_concat_eq_min (v := v) h.rc_length hc
    exact (h.setRc hm hlen (by omega) (forall_lt_concat h.rc_fits hv)).respond_zero .ok
  | rcOverflowed hm _ hc =>
    have hlen := h.rc_length
    exact (h.setRc hm (by omega) le_rfl h.rc_fits).respond_zero .index
  | committed hm _ hp => exact (h.committed hm hp).respond_zero .ok
  | commitFailed hm _ => exact h.raise_param hm
  | cleared hm _ => exact (h.cleared hm).respond_zero .ok

/-- Settles O22: a step is idle, a reset, or a command word, whose every effect keeps the invariant. -/
theorem stepKeepsInvariant : Obligations.StepKeepsInvariant := by
  unfold Obligations.StepKeepsInvariant
  intro s t h hstep
  obtain ⟨-, rfl⟩ | ⟨cmd, din, rest, -, hrun⟩ | ⟨rest, rfl, -⟩ := step_next hstep
  · exact h
  · have hp := h.present din rest
    obtain ⟨-, -, rfl⟩ | ⟨i, -, hexec⟩ := runWord_next hrun
    · exact hp.respond_zero .illegal
    · exact (exec_effect hexec).inv hp
  · exact h.afterReset rest

end Sys2Proof.Machine
end

section
/-! PROOF. What an answer says about the state (R44, R45): a command that answers a non-fatal error has changed nothing
but an overflow mark, and a read command changes nothing and answers the same when it is repeated. -/

namespace Sys2Proof.Machine

/-! ### Failed commands (R44) -/

/-- The last response of a state that has just answered is that answer. -/
theorem State.respond_last {u : State} {st : Status} {v : Nat} {log : List Response} {r : Response}
    (h : (u.respond st v).responses = log ++ [r]) : r = ⟨st, v⟩ := by
  rw [State.respond_responses] at h
  simpa using (List.append_inj_right' h rfl).symm

/-- Settles O16: of the effects of a command, only four answer an error. One changes nothing, two leave an overflow mark,
and the failed commit is fatal. -/
theorem failedCommandChangesNothing : Obligations.FailedCommandChangesNothing := by
  unfold Obligations.FailedCommandChangesNothing
  intro i s t r h hlog hok hparam _
  cases exec_effect h with
  | error e =>
    obtain rfl := State.respond_last hlog
    exact .inl rfl
  | mdsOverflowed _ hi =>
    obtain rfl := State.respond_last hlog
    exact .inr (.inl ⟨hi, rfl, rfl⟩)
  | rcOverflowed _ hi =>
    obtain rfl := State.respond_last hlog
    exact .inr (.inr ⟨hi, rfl, rfl⟩)
  | commitFailed => exact absurd (congrArg Response.status (State.respond_last hlog)) hparam
  | _ => exact absurd (congrArg Response.status (State.respond_last hlog)) hok

/-! ### Read commands (R45) -/

/-- The results of one read in `s` and in `u`: both append the same response and change nothing else, or both stop. -/
inductive SameAnswer (s u : State) : Result → Result → Prop where
  | answered (r : Response) :
      SameAnswer s u (.next { s with responses := s.responses ++ [r] }) (.next { u with responses := u.responses ++ [r] })
  | stopped (e : Fault) : SameAnswer s u (.fault e) (.fault e)

section
variable {s u : State}

theorem SameAnswer.of_next {a b : Result} {t : State} (h : SameAnswer s u a b) (ha : a = .next t) :
    ∃ r, t = { s with responses := s.responses ++ [r] } ∧ b = .next { u with responses := u.responses ++ [r] } := by
  cases h with
  | answered r =>
    cases ha
    exact ⟨r, rfl, rfl⟩
  | stopped => cases ha

theorem SameAnswer.done (v : Nat) : SameAnswer s u (done s v) (done u v) := .answered ⟨.ok, v⟩

theorem SameAnswer.fail {e : Status} (he : e.isFatal = false) : SameAnswer s u (fail s e) (fail u e) := by
  rw [Machine.fail, Machine.fail, s.raise_of_not_fatal he, u.raise_of_not_fatal he]
  exact .answered ⟨e, 0⟩

/-- The mode check decides alike in states of the same mode. -/
theorem SameAnswer.inMode {need : Need} {rule : State → Result} (hm : u.mode = s.mode)
    (h : SameAnswer s u (rule s) (rule u)) : SameAnswer s u (inMode need s rule) (inMode need u rule) := by
  rw [Machine.inMode, Machine.inMode, hm]
  cases he : modeError need s.mode with
  | some e => exact .fail (modeError_not_fatal he)
  | none => exact h

theorem SameAnswer.orUninit {α : Type} {content : Option α} {rule rule' : α → Result}
    (h : ∀ v, SameAnswer s u (rule v) (rule' v)) : SameAnswer s u (orUninit content rule) (orUninit content rule') := by
  cases content with
  | some v => exact h v
  | none => exact .stopped .uninitRead

/-- A check that decides alike in both states. -/
theorem SameAnswer.ite {c : Prop} [Decidable c] {a a' b b' : Result} (ht : SameAnswer s u a b)
    (hf : SameAnswer s u a' b') : SameAnswer s u (if c then a else a') (if c then b else b') := by
  split
  · exact ht
  · exact hf

/-- A register number that answers the register's content, or an error when it names no register. -/
theorem SameAnswer.contentOr {e : Status} (he : e.isFatal = false) (content : Option Nat) :
    SameAnswer s u (match content with | some v => Machine.done s v | none => Machine.fail s e)
      (match content with | some v => Machine.done u v | none => Machine.fail u e) := by
  cases content with
  | some v => exact .done v
  | none => exact .fail he

end

/-- The eight read commands of R45. -/
def Instr.IsRead (i : Instr) : Prop :=
  (∃ k, i = .hsqz k ∨ i = .prdcfg k ∨ i = .prdmds k ∨ i = .prdrc k ∨ i = .csrr k) ∨
    (∃ fa, i = .fst fa) ∨ (∃ fa fb, i = .feq fa fb ∨ i = .flt fa fb)

/-- A rule whose answer does not depend on the responses given before it, and that changes nothing else. -/
def LogIndependent (rule : State → Result) : Prop :=
  ∀ (s : State) (log : List Response),
    SameAnswer s { s with responses := log } (rule s) (rule { s with responses := log })

theorem execHsqz_logIndependent (k : Nat) : LogIndependent (execHsqz k) := fun s _ =>
  .inMode rfl <| .ite (.fail rfl) <| .ite (.fail rfl) <| .done (s.dgAt k)

theorem execPrdcfg_logIndependent (sel : Nat) : LogIndependent (execPrdcfg sel) := fun s _ =>
  .inMode rfl <| .contentOr rfl (s.cfgAt sel)

theorem execPrdmds_logIndependent (q : Nat) : LogIndependent (execPrdmds q) := fun s _ =>
  .inMode rfl <| .ite (.fail rfl) <| .done (tableAt s.mdsBuf q)

theorem execPrdrc_logIndependent (q : Nat) : LogIndependent (execPrdrc q) := fun s _ =>
  .inMode rfl <| .ite (.fail rfl) <| .done (tableAt s.rcBuf q)

theorem execCsrr_logIndependent (n : Nat) : LogIndependent (execCsrr n) := fun s _ =>
  .inMode rfl <| .contentOr rfl (s.csrAt n)

theorem execFst_logIndependent (fa : Reg) : LogIndependent (execFst fa) := fun _ _ =>
  .inMode rfl <| .orUninit fun v => .done v

theorem execFeq_logIndependent (fa fb : Reg) : LogIndependent (execFeq fa fb) := fun _ _ =>
  .inMode rfl <| .orUninit fun a => .orUninit fun b => .done (feqValue a b)

theorem execFlt_logIndependent (fa fb : Reg) : LogIndependent (execFlt fa fb) := fun _ _ =>
  .inMode rfl <| .orUninit fun a => .orUninit fun b => .done (fltValue a b)

/-- No read command depends on the responses given before it. -/
theorem exec_logIndependent {i : Instr} (hi : Instr.IsRead i) : LogIndependent (exec i) := by
  obtain ⟨k, rfl | rfl | rfl | rfl | rfl⟩ | ⟨fa, rfl⟩ | ⟨fa, fb, rfl | rfl⟩ := hi
  · exact execHsqz_logIndependent k
  · exact execPrdcfg_logIndependent k
  · exact execPrdmds_logIndependent k
  · exact execPrdrc_logIndependent k
  · exact execCsrr_logIndependent k
  · exact execFst_logIndependent fa
  · exact execFeq_logIndependent fa fb
  · exact execFlt_logIndependent fa fb

/-- Settles O20: the run on the log as it is says what the command appended, and the run on the longer log that it appends
the same again. -/
theorem readCommandsChangeNothing : Obligations.ReadCommandsChangeNothing := by
  unfold Obligations.ReadCommandsChangeNothing
  intro i s t hi h
  obtain ⟨r, rfl, -⟩ := (exec_logIndependent hi s s.responses).of_next h
  obtain ⟨r', hr, hagain⟩ := (exec_logIndependent hi s (s.responses ++ [r])).of_next h
  obtain rfl : r = r' := by simpa using hr
  exact ⟨r, rfl, hagain⟩

end Sys2Proof.Machine
end

section
/-! PROOF. The fields of a command word (R54): a word is its fields, and each format says which of them it uses (R55).
The must-be-zero column, the mask column and the encoder are each tied to that one list of fields. -/

namespace Sys2Proof

/-! ### The fields of a word -/

theorem bits_lt (w : CmdWord) (hi lo : Nat) : bits w hi lo < 2 ^ (hi + 1 - lo) := Nat.mod_lt _ (Nat.two_pow_pos _)

theorem bits_and (w v : CmdWord) (hi lo : Nat) : bits (w &&& v) hi lo = bits w hi lo &&& bits v hi lo := by
  simp only [bits, BitVec.toNat_and, Nat.and_div_two_pow, Nat.and_mod_two_pow]

/-- A word is made of its opcode, its three register fields and the 12 bits below them. -/
theorem word_eq_iff {w v : CmdWord} :
    w = v ↔ bits w 31 24 = bits v 31 24 ∧ bits w 23 20 = bits v 23 20 ∧ bits w 19 16 = bits v 19 16 ∧
      bits w 15 12 = bits v 15 12 ∧ bits w 11 0 = bits v 11 0 := by
  constructor
  · rintro rfl
    simp
  · rintro ⟨hop, hrd, hrs1, hrs2, hz⟩
    apply BitVec.eq_of_toNat_eq
    simp only [bits] at hop hrd hrs1 hrs2 hz
    omega

theorem regAt_val (w : CmdWord) (lo : Nat) : (regAt w lo : Nat) = bits w (lo + 3) lo := by
  have hlt := bits_lt w (lo + 3) lo
  rw [show lo + 3 + 1 - lo = 4 by omega] at hlt
  exact Nat.mod_eq_of_lt hlt

theorem idxOk_idxAt (w : CmdWord) : idxOk (idxAt w) = true := decide_eq_true (bits_lt w 15 0)

/-! ### The fields of a packed word -/

theorem bits_pack_z {op rd rs1 low : Nat} (ho : op < 256) (hd : rd < 16) (hs : rs1 < 16) (hl : low < 65536) :
    bits (pack op rd rs1 low) 11 0 = low % 2 ^ 12 := by
  rw [bits, pack_toNat ho hd hs hl]
  omega

theorem regAt_pack_rd {op rs1 low : Nat} (rd : Reg) (ho : op < 256) (hs : rs1 < 16) (hl : low < 65536) :
    regAt (pack op rd rs1 low) 20 = rd :=
  Fin.ext ((regAt_val _ _).trans (bits_pack_rd ho rd.isLt hs hl))

theorem regAt_pack_rs1 {op rd low : Nat} (rs1 : Reg) (ho : op < 256) (hd : rd < 16) (hl : low < 65536) :
    regAt (pack op rd rs1 low) 16 = rs1 :=
  Fin.ext ((regAt_val _ _).trans (bits_pack_rs1 ho hd rs1.isLt hl))

theorem regAt_pack_rs2 {op rd rs1 : Nat} (rs2 : Reg) (ho : op < 256) (hd : rd < 16) (hs : rs1 < 16) :
    regAt (pack op rd rs1 (rs2 * 2 ^ 12)) 12 = rs2 := by
  refine Fin.ext ((regAt_val _ _).trans ?_)
  rw [bits_pack_rs2 ho hd hs (by omega)]
  omega

theorem idxAt_pack {op rd rs1 low : Nat} (ho : op < 256) (hd : rd < 16) (hs : rs1 < 16) (hl : low < 65536) :
    idxAt (pack op rd rs1 low) = low := bits_pack_low ho hd hs hl

/-- `op << 24` is the word of the opcode alone (R55). -/
theorem ofNat_shiftLeft_eq_pack {op : Nat} (ho : op < 256) : BitVec.ofNat 32 op <<< 24 = pack op 0 0 0 := by
  apply BitVec.eq_of_toNat_eq
  rw [pack_toNat ho (by decide) (by decide) (by decide), BitVec.toNat_shiftLeft, BitVec.toNat_ofNat, Nat.shiftLeft_eq]
  omega

/-! ### The fields a format uses (R55) -/

/-- The formats with `rd` in bits 23:20. -/
def Format.hasRd : Format → Bool
  | .RRR | .RR | .RD | .RDI => true
  | .Z | .RC | .RS | .RSI | .I => false

/-- The formats with `rs1` in bits 19:16. -/
def Format.hasRs1 : Format → Bool
  | .RRR | .RR | .RC | .RS | .RSI => true
  | .Z | .RD | .RDI | .I => false

/-- The formats with `rs2` in bits 15:12. -/
def Format.hasRs2 : Format → Bool
  | .RRR | .RC => true
  | .Z | .RR | .RD | .RS | .RDI | .RSI | .I => false

/-- The formats with `idx` in bits 15:0. -/
def Format.hasIdx : Format → Bool
  | .RDI | .RSI | .I => true
  | .Z | .RRR | .RR | .RC | .RD | .RS => false

/-- The must-be-zero column, field by field: what the format does not use is 0. -/
theorem Format.zerosOk_iff {f : Format} {w : CmdWord} :
    f.zerosOk w = true ↔ (f.hasRd = true ∨ bits w 23 20 = 0) ∧ (f.hasRs1 = true ∨ bits w 19 16 = 0) ∧
      ((f.hasRs2 || f.hasIdx) = true ∨ bits w 15 12 = 0) ∧ (f.hasIdx = true ∨ bits w 11 0 = 0) := by
  cases f <;> simp [Format.zerosOk, hasRd, hasRs1, hasRs2, hasIdx, bits] <;> omega

/-- The mask column, field by field: a 1 at the opcode and at every field the format does not use. -/
theorem Format.bits_mask (f : Format) :
    bits f.mask 31 24 = 2 ^ 8 - 1 ∧ bits f.mask 23 20 = (if f.hasRd then 0 else 2 ^ 4 - 1) ∧
      bits f.mask 19 16 = (if f.hasRs1 then 0 else 2 ^ 4 - 1) ∧
      bits f.mask 15 12 = (if f.hasRs2 || f.hasIdx then 0 else 2 ^ 4 - 1) ∧
      bits f.mask 11 0 = (if f.hasIdx then 0 else 2 ^ 12 - 1) := by
  cases f <;> decide

/-- A field masked by what its format says of it. -/
theorem and_fieldMask_eq_zero_iff {x k : Nat} (hx : x < 2 ^ k) (used : Bool) :
    x &&& (if used then 0 else 2 ^ k - 1) = 0 ↔ used = true ∨ x = 0 := by
  cases used with
  | true => simp
  | false => simp [Nat.mod_eq_of_lt hx]

/-- R55: the mask column and the must-be-zero column select the same words. -/
theorem Format.and_mask_eq_iff {f : Format} {w : CmdWord} {op : Nat} (ho : op < 256) :
    w &&& f.mask = BitVec.ofNat 32 op <<< 24 ↔ bits w 31 24 = op ∧ f.zerosOk w = true := by
  obtain ⟨mop, mrd, mrs1, mrs2, mz⟩ := f.bits_mask
  have hop : bits w 31 24 &&& (2 ^ 8 - 1) = bits w 31 24 :=
    Nat.and_two_pow_sub_one_of_lt_two_pow (bits_lt w 31 24)
  have h0 : (0 : Nat) < 65536 := by decide
  have hr : (0 : Nat) < 16 := by decide
  rw [ofNat_shiftLeft_eq_pack ho, word_eq_iff, Format.zerosOk_iff]
  simp only [bits_and, mop, mrd, mrs1, mrs2, mz, hop, bits_pack_op ho hr hr h0, bits_pack_rd ho hr hr h0,
    bits_pack_rs1 ho hr hr h0, bits_pack_rs2 ho hr hr h0, bits_pack_z ho hr hr h0, Nat.zero_div, Nat.zero_mod,
    and_fieldMask_eq_zero_iff (bits_lt w 23 20), and_fieldMask_eq_zero_iff (bits_lt w 19 16),
    and_fieldMask_eq_zero_iff (bits_lt w 15 12), and_fieldMask_eq_zero_iff (bits_lt w 11 0)]

/-- The word of an opcode and of those fields of `w` that the format uses, zeros in the others. -/
def Format.wordOf (f : Format) (op : Nat) (w : CmdWord) : CmdWord :=
  pack op (if f.hasRd then regAt w 20 else 0 : Reg) (if f.hasRs1 then regAt w 16 else 0 : Reg)
    (if f.hasIdx then idxAt w else if f.hasRs2 then regAt w 12 * 2 ^ 12 else 0)

/-- A word with zeros in the fields its format does not use is the word of its opcode and the other fields. -/
theorem Format.wordOf_eq {f : Format} {w : CmdWord} (hz : f.zerosOk w = true) : f.wordOf (bits w 31 24) w = w := by
  have hop : bits w 31 24 < 256 := bits_lt w 31 24
  have hidx : idxAt w < 65536 := bits_lt w 15 0
  apply BitVec.eq_of_toNat_eq
  rw [Format.zerosOk_iff] at hz
  rw [Format.wordOf, pack_toNat hop (Fin.isLt _) (Fin.isLt _) (by split_ifs <;> omega)]
  cases f <;>
    simp [hasRd, hasRs1, hasRs2, hasIdx, regAt_val, idxAt, bits] at hz ⊢ <;> omega

end Sys2Proof
end

section
/-! PROOF. The decoder and the encoder (R54, R55, R60): what `select` can answer, said once, and that the two undo each
other on well-formed commands and on words that decode. -/

namespace Sys2Proof

/-- The word of a well-formed command fits its format (R55), for every command. -/
theorem encode_fitsFormat : ∀ i : Instr, Laws.EncodeFitsFormat.Statement i
  | .nop => Laws.EncodeFitsFormat.nop
  | .csrr n => Laws.EncodeFitsFormat.csrr n
  | .fadd fd fa fb => Laws.EncodeFitsFormat.fadd fd fa fb
  | .fsub fd fa fb => Laws.EncodeFitsFormat.fsub fd fa fb
  | .fmul fd fa fb => Laws.EncodeFitsFormat.fmul fd fa fb
  | .fpow fd fa => Laws.EncodeFitsFormat.fpow fd fa
  | .finv fd fa => Laws.EncodeFitsFormat.finv fd fa
  | .feq fa fb => Laws.EncodeFitsFormat.feq fa fb
  | .flt fa fb => Laws.EncodeFitsFormat.flt fa fb
  | .fldu fd => Laws.EncodeFitsFormat.fldu fd
  | .flds fd => Laws.EncodeFitsFormat.flds fd
  | .fst fa => Laws.EncodeFitsFormat.fst fa
  | .fmv fd fa => Laws.EncodeFitsFormat.fmv fd fa
  | .sget fd k => Laws.EncodeFitsFormat.sget fd k
  | .sput fa k => Laws.EncodeFitsFormat.sput fa k
  | .szero => Laws.EncodeFitsFormat.szero
  | .sboxf => Laws.EncodeFitsFormat.sboxf
  | .sboxi => Laws.EncodeFitsFormat.sboxi
  | .mdsmul => Laws.EncodeFitsFormat.mdsmul
  | .arc k => Laws.EncodeFitsFormat.arc k
  | .pinit => Laws.EncodeFitsFormat.pinit
  | .pstep => Laws.EncodeFitsFormat.pstep
  | .perm => Laws.EncodeFitsFormat.perm
  | .hinit => Laws.EncodeFitsFormat.hinit
  | .habs => Laws.EncodeFitsFormat.habs
  | .hfin => Laws.EncodeFitsFormat.hfin
  | .hsqz k => Laws.EncodeFitsFormat.hsqz k
  | .habsr fa => Laws.EncodeFitsFormat.habsr fa
  | .pcfg sel => Laws.EncodeFitsFormat.pcfg sel
  | .pmds => Laws.EncodeFitsFormat.pmds
  | .prck => Laws.EncodeFitsFormat.prck
  | .pcommit => Laws.EncodeFitsFormat.pcommit
  | .pclear => Laws.EncodeFitsFormat.pclear
  | .prdcfg sel => Laws.EncodeFitsFormat.prdcfg sel
  | .prdmds q => Laws.EncodeFitsFormat.prdmds q
  | .prdrc q => Laws.EncodeFitsFormat.prdrc q

/-! ### What the decoder selects -/

/-- Everything `select` can answer: a command of the word's opcode, with fields of the word as its operands. -/
theorem select_some {w : CmdWord} {i : Instr} (h : select w = some i) :
    bits w 31 24 = i.row.op ∧ i.wf = true ∧ encode i = i.row.format.wordOf i.row.op w := by
  unfold select at h
  split at h <;> cases h <;> exact ⟨‹_›, by simp [Instr.wf, idxOk_idxAt], rfl⟩

/-- A word with an assigned opcode selects a command of that opcode's row. -/
theorem exists_select_of_op {w : CmdWord} (i : Instr) (h : bits w 31 24 = i.row.op) :
    ∃ j, select w = some j ∧ j.row = i.row := by
  cases i <;> simp [select, h, Instr.row]

/-- The encoded word of a command selects that command: every operand comes back from its field. -/
theorem select_encode {i : Instr} (h : i.wf = true) : select (encode i) = some i := by
  cases i with
  | nop | szero | sboxf | sboxi | mdsmul | pinit | pstep | perm | hinit | habs | hfin | pmds | prck | pcommit
  | pclear => rfl
  | sget _ k | sput _ k | csrr k | arc k | hsqz k | pcfg k | prdcfg k | prdmds k | prdrc k =>
    have hk := Laws.EncodeFitsFormat.idx_lt h
    simp (disch := omega) only [select, encode, bits_pack_op, regAt_pack_rd, regAt_pack_rs1, idxAt_pack]
  | fadd | fsub | fmul | fpow | finv | feq | flt | fldu | flds | fst | fmv | habsr =>
    simp (disch := omega) only [select, encode, bits_pack_op, regAt_pack_rd, regAt_pack_rs1, regAt_pack_rs2]

/-! ### Decoding -/

/-- R60: a word decodes to the command it selects, when the must-be-zero bits of its format are 0. -/
theorem decode_eq_ok_iff {w : CmdWord} {i : Instr} :
    decode w = .ok i ↔ select w = some i ∧ i.row.format.zerosOk w = true := by
  unfold decode
  cases hs : select w with
  | none => simp
  | some j =>
    by_cases hz : j.row.format.zerosOk w = true
    · simp only [hz, if_true, Except.ok.injEq, Option.some.injEq]
      exact ⟨fun hji => ⟨hji, hji ▸ hz⟩, And.left⟩
    · simp only [hz, Bool.false_eq_true, if_false, reduceCtorEq, Option.some.injEq, false_iff]
      rintro ⟨rfl, hz'⟩
      exact hz hz'

/-- R60: a word whose opcode is not assigned is rejected by that name. -/
theorem decode_of_select_none {w : CmdWord} (h : select w = none) : decode w = .error (.unassigned (bits w 31 24)) := by
  rw [decode, h]

/-- Settles O1: the encoded word selects its command and has zeros where the format wants them. -/
theorem decodeEncodeRoundTrip : Obligations.DecodeEncodeRoundTrip := by
  unfold Obligations.DecodeEncodeRoundTrip
  intro i hwf
  exact decode_eq_ok_iff.mpr ⟨select_encode hwf, (encode_fitsFormat i hwf).2⟩

/-- Settles O2: the selected command encodes to the word of its opcode and its operands' fields, and the other fields of
the word are 0. -/
theorem encodeDecodeRoundTrip : Obligations.EncodeDecodeRoundTrip := by
  unfold Obligations.EncodeDecodeRoundTrip
  intro w i h
  obtain ⟨hsel, hz⟩ := decode_eq_ok_iff.mp h
  obtain ⟨hop, hwf, henc⟩ := select_some hsel
  refine ⟨?_, hwf⟩
  calc encode i = i.row.format.wordOf (bits w 31 24) w := by rw [henc, hop]
    _ = w := Format.wordOf_eq hz

/-- Every row of the opcode map is the row of a command. -/
theorem exists_row_eq {r : Row} (hr : r ∈ opcodeTable) : ∃ i : Instr, i.row = r := by
  simp only [opcodeTable, List.mem_cons, List.not_mem_nil, or_false] at hr
  casesm* _ ∨ _ <;> exact ⟨_, Eq.symm ‹_›⟩

/-- Settles O3: the masked comparison looks at the opcode and at the must-be-zero bits, which is what the decoder looks
at. -/
theorem decodeSelectsByMask : Obligations.DecodeSelectsByMask := by
  unfold Obligations.DecodeSelectsByMask
  refine ⟨⟨rfl, rfl, rfl, rfl, rfl, rfl, rfl, rfl, rfl⟩, fun w r hr => ?_⟩
  obtain ⟨i, rfl⟩ := exists_row_eq hr
  rw [Format.and_mask_eq_iff (row_op_lt i)]
  constructor
  · rintro ⟨hop, hz⟩
    obtain ⟨j, hj, hrow⟩ := exists_select_of_op i hop
    exact ⟨j, decode_eq_ok_iff.mpr ⟨hj, hrow ▸ hz⟩, hrow⟩
  · rintro ⟨j, hj, hrow⟩
    obtain ⟨hsel, hz⟩ := decode_eq_ok_iff.mp hj
    rw [← hrow]
    exact ⟨(select_some hsel).1, hz⟩

/-! ### Reserved opcodes and the words of the spec -/

/-- R61's list of reserved opcodes. -/
def ReservedOp (op : Nat) : Prop :=
  (2 ≤ op ∧ op ≤ 0x0F) ∨ op = 0x17 ∨ (0x1C ≤ op ∧ op ≤ 0x1F) ∨ (0x23 ≤ op ∧ op ≤ 0x2F) ∨
    (0x34 ≤ op ∧ op ≤ 0x37) ∨ (0x3B ≤ op ∧ op ≤ 0x3F) ∨ (0x45 ≤ op ∧ op ≤ 0x4F) ∨ 0x58 ≤ op

/-- No row of R59 has a reserved opcode. -/
theorem row_op_not_reserved (i : Instr) : ¬ ReservedOp i.row.op := by
  cases i <;> simp [ReservedOp, Instr.row]

/-- Settles O4: a word that selected a command would have the opcode of a row. -/
theorem reservedOpcodesAreIllegal : Obligations.ReservedOpcodesAreIllegal := by
  unfold Obligations.ReservedOpcodesAreIllegal
  rintro w op rfl hres
  cases hsel : select w with
  | none => exact decode_of_select_none hsel
  | some i => exact absurd ((select_some hsel).1 ▸ hres) (row_op_not_reserved i)

/-- Settles O5: the decoder run on each word. -/
theorem specWordsDecode : Obligations.SpecWordsDecode := by
  unfold Obligations.SpecWordsDecode
  decide

end Sys2Proof
end

section
/-! PROOF. How a command word becomes a command (R47, R53): one lemma for the input taken and one for the word decoded,
and what every command leaves on the channels. -/

namespace Sys2Proof.Machine

/-- A command presented next is the word run with its data word on `DIN` (R53). -/
theorem step_of_command {s : State} {cmd : CmdWord} {din : Nat} {rest : List HostInput}
    (h : s.inputs = .command cmd din :: rest) : step s = runWord cmd (s.present din rest) := by
  rw [step, takeInput, h]

theorem runWord_of_decode_ok {cmd : CmdWord} {i : Instr} (s : State) (h : decode cmd = .ok i) :
    runWord cmd s = exec i s := by
  rw [runWord, h]

/-- Settles O6. -/
theorem stepRunsDecodedCommand : Obligations.StepRunsDecodedCommand := by
  unfold Obligations.StepRunsDecodedCommand
  intro s w d rest i hin hdec
  rw [step_of_command hin, runWord_of_decode_ok _ hdec]
  rfl

/-! ### One answer for each command (R53) -/

/-- What every command does with the channels: one response more, whose `DOUT` is 0 when it is an error's, and the
inputs, the data word and the build as they were. -/
def AnswersOnce (s t : State) : Prop :=
  ∃ r : Response, t.responses = s.responses ++ [r] ∧ (r.status ≠ .ok → r.dout = 0) ∧
    t.inputs = s.inputs ∧ t.din = s.din ∧ t.build = s.build

/-- A response given after writes that stay away from the channels. -/
theorem AnswersOnce.respond {s u : State} {st : Status} {v : Nat} (hv : st ≠ .ok → v = 0)
    (hu : u.responses = s.responses ∧ u.inputs = s.inputs ∧ u.din = s.din ∧ u.build = s.build) :
    AnswersOnce s (u.respond st v) := by
  obtain ⟨hlog, hin, hdin, hb⟩ := hu
  exact ⟨⟨st, v⟩, by rw [State.respond_responses, hlog], hv, hin, hdin, hb⟩

/-- Every effect ends with one response. -/
theorem CommandEffect.answersOnce {i : Instr} {s t : State} (h : CommandEffect i s t) : AnswersOnce s t := by
  cases h with
  | answer v => exact .respond (absurd rfl) (by simp)
  | config sel v s' _ _ _ hs => rw [State.setCfg_frame hs]; exact .respond (fun _ => rfl) (by simp)
  | committed => exact .respond (fun _ => rfl) (by simp [State.committed])
  | commitFailed => rw [State.raise_param]; exact .respond (fun _ => rfl) (by simp)
  | cleared => exact .respond (fun _ => rfl) (by simp [State.cleared])
  | _ => exact .respond (fun _ => rfl) (by simp)

/-- Settles O11. -/
theorem everyCommandAnswersOnce : Obligations.EveryCommandAnswersOnce := by
  unfold Obligations.EveryCommandAnswersOnce
  intro i s t h
  exact (exec_effect h).answersOnce

end Sys2Proof.Machine
end

section
/-! PROOF. The data word that a command ignores (R53, R57): a rule that commutes with a change of `DIN`, one lemma per
shape of rule, and the 29 commands whose `DIN` column says *ignored*. -/

namespace Sys2Proof.Machine

/-- The state with another data word on `DIN`. -/
def State.withDin (s : State) (d : Nat) : State := { s with din := d }

/-- `b` is the answer `a` with the data word `d` in its next state. -/
def SameButDin (d : Nat) (a b : Result) : Prop := b = mapNext (·.withDin d) a

/-- A rule that does not look at `DIN`: with another data word it gives the same answer. -/
def IgnoresDin (rule : State → Result) : Prop := ∀ (s : State) (d : Nat), SameButDin d (rule s) (rule (s.withDin d))

section
variable {d : Nat}

theorem SameButDin.done (s : State) (v : Nat) : SameButDin d (done s v) (done (s.withDin d) v) := rfl

theorem SameButDin.fail (s : State) (e : Status) : SameButDin d (fail s e) (fail (s.withDin d) e) := by
  cases e <;> rfl

theorem SameButDin.ite {c : Prop} [Decidable c] {a a' b b' : Result} (ht : SameButDin d a b)
    (hf : SameButDin d a' b') : SameButDin d (if c then a else a') (if c then b else b') := by
  split
  · exact ht
  · exact hf

/-- A read of a number, which is the same whatever is on `DIN`. -/
theorem SameButDin.orUninit {α : Type} {content : Option α} {rule rule' : α → Result}
    (h : ∀ v, SameButDin d (rule v) (rule' v)) : SameButDin d (orUninit content rule) (orUninit content rule') := by
  cases content with
  | some v => exact h v
  | none => rfl

/-- An operation on the state that may stop, and that carries the data word along. -/
theorem SameButDin.orUninitState {u u' : Option State} {rule : State → Result} (hu : u' = u.map (·.withDin d))
    (h : IgnoresDin rule) : SameButDin d (Machine.orUninit u rule) (Machine.orUninit u' rule) := by
  subst hu
  cases u with
  | some v => exact h v d
  | none => rfl

theorem SameButDin.contentOr {s : State} {e : Status} (content : Option Nat) :
    SameButDin d (match content with | some v => Machine.done s v | none => Machine.fail s e)
      (match content with | some v => Machine.done (s.withDin d) v | none => Machine.fail (s.withDin d) e) := by
  cases content with
  | some v => exact .done s v
  | none => exact .fail s e

end

/-- The mode check does not look at `DIN`. -/
theorem IgnoresDin.inMode {need : Need} {rule : State → Result} (h : IgnoresDin rule) :
    IgnoresDin (Machine.inMode need · rule) := fun s d => by
  show SameButDin d (Machine.inMode need s rule) (Machine.inMode need (s.withDin d) rule)
  rw [Machine.inMode, Machine.inMode, show (s.withDin d).mode = s.mode from rfl]
  cases modeError need s.mode with
  | some e => exact .fail s e
  | none => exact h s d

theorem done_ignoresDin (v : Nat) : IgnoresDin (done · v) := fun s _ => .done s v

/-! ### The operations on the state vector -/

theorem State.mapVec_withDin (s : State) (d : Nat) (layer : List Nat → List Nat) :
    (s.withDin d).mapVec layer = (s.mapVec layer).map (·.withDin d) := by
  rw [State.mapVec, State.mapVec, show (s.withDin d).readVec = s.readVec from rfl]
  cases s.readVec <;> rfl

theorem State.permuted_withDin (s : State) (d : Nat) : (s.withDin d).permuted = s.permuted.map (·.withDin d) := by
  rw [State.permuted, State.permuted, State.mapVec_withDin, Option.map_map, Option.map_map]
  rfl

theorem State.padded_withDin (s : State) (d : Nat) : (s.withDin d).padded = s.padded.map (·.withDin d) := by
  rw [State.padded, State.padded, State.permuted_withDin, show (s.withDin d).abspos = s.abspos from rfl]
  split
  · rfl
  · rw [Option.map_map, Option.map_map]
    rfl

theorem State.absorb_withDin (s : State) (d v : Nat) : (s.withDin d).absorb v = (s.absorb v).map (·.withDin d) := by
  rw [State.absorb, State.absorb, show (s.withDin d).sAt (s.withDin d).abspos = s.sAt s.abspos from rfl]
  cases s.sAt s.abspos with
  | none => rfl
  | some x =>
    have hfull := State.permuted_withDin ((s.setElem s.abspos (add s.p x v)).setHany true) d
    dsimp only
    rw [apply_ite (Option.map fun t : State => t.withDin d)]
    refine ite_congr rfl (fun _ => (congrArg (Option.map (·.setAbspos 0)) hfull).trans ?_) fun _ => rfl
    rw [Option.map_map, Option.map_map]
    rfl

/-- A layer ends its command the same way whatever is on `DIN`. -/
theorem layer_ignoresDin (layer : State → List Nat → List Nat) (hl : ∀ s d, layer (s.withDin d) = layer s) :
    IgnoresDin fun s => orUninit (s.mapVec (layer s)) fun s' => done s' 0 := fun s d => by
  refine .orUninitState ?_ (done_ignoresDin 0)
  rw [hl, State.mapVec_withDin]

/-! ### The commands -/

/-- `HFIN` reads the padded state, so its reads come from a state that carries the data word along. -/
theorem execHfin_ignoresDin : IgnoresDin execHfin :=
  .inMode fun s d => .ite (.fail s _) <| .ite (.fail s _) <|
    .orUninitState (s.padded_withDin d) fun _ _ =>
      .orUninit fun _ => .orUninit fun _ => .orUninit fun _ => .orUninit fun _ => .done _ _

/-- A command whose `DIN` column says *ignored* does not look at `DIN` (R57, R59). The mode check of
`NOP` and `CSRR` lets every mode through (R143). -/
theorem exec_ignoresDin {i : Instr} (hi : i.row.din = .ignored) : IgnoresDin (exec i) := by
  cases i with
  | fpow | fldu | flds | habs | pcfg | pmds | prck => cases hi
  | nop => exact fun s _ => .done s 0
  | csrr n => exact fun s _ => .contentOr (s.csrAt n)
  | fadd | fsub | fmul | feq | flt => exact .inMode fun _ _ => .orUninit fun _ => .orUninit fun _ => .done _ _
  | fst | fmv => exact .inMode fun _ _ => .orUninit fun _ => .done _ _
  | finv => exact .inMode fun s _ => .orUninit fun _ => .ite (.fail s _) (.done _ _)
  | sget | sput => exact .inMode fun s _ => .ite (.fail s _) <| .orUninit fun _ => .done _ _
  | szero | pinit | hinit | pclear => exact .inMode fun _ _ => .done _ _
  | sboxf => exact .inMode (layer_ignoresDin (fun s => sbox s.params s.alpha) fun _ _ => rfl)
  | sboxi => exact .inMode (layer_ignoresDin (fun s => sbox s.params s.ainv) fun _ _ => rfl)
  | mdsmul => exact .inMode (layer_ignoresDin (fun s => mdsMul s.params) fun _ _ => rfl)
  | arc k =>
    exact .inMode fun s d => .ite (.fail s _) (layer_ignoresDin (fun s => addRc s.params k) (fun _ _ => rfl) s d)
  | pstep =>
    exact .inMode fun s d => .ite (.fail s _) <|
      .orUninitState (s.mapVec_withDin d _) fun _ _ => .done _ _
  | perm => exact .inMode fun s d => .orUninitState (s.permuted_withDin d) (done_ignoresDin 0)
  | hfin => exact execHfin_ignoresDin
  | hsqz => exact .inMode fun s _ => .ite (.fail s _) <| .ite (.fail s _) <| .done s _
  | habsr =>
    exact .inMode fun s d => .ite (.fail s _) <| .orUninit fun v =>
      .orUninitState (s.absorb_withDin d v) (done_ignoresDin 0)
  | pcommit => exact .inMode fun s _ => .ite (.done _ _) (.fail s _)
  | prdcfg sel => exact .inMode fun s _ => .contentOr (s.cfgAt sel)
  | prdmds | prdrc => exact .inMode fun s _ => .ite (.fail s _) (.done s _)

/-- Settles O12. -/
theorem ignoredDinHasNoEffect : Obligations.IgnoredDinHasNoEffect := by
  unfold Obligations.IgnoredDinHasNoEffect
  intro i s d hi
  exact exec_ignoresDin hi s d

end Sys2Proof.Machine
end

section
/-! PROOF. The expansion of `FNEG` (R63), run through the two commands that it is made of. -/

namespace Sys2Proof.Machine

/-! ### What the two commands of the expansion do in mode `READY` (R73, R78) -/

theorem exec_fldu_of_ready {s : State} (fd : Reg) (hm : s.mode = .ready) :
    exec (.fldu fd) s = .next ((s.setReg fd (fe s.p s.udin)).respond .ok 0) := by
  rw [exec, execFldu, inMode_of_allowed (modeError_eq_none.mpr (by simp [hm]))]
  rfl

theorem exec_fsub_of_ready {s : State} (fd : Reg) {fa fb : Reg} {a b : Nat} (hm : s.mode = .ready)
    (ha : s.f[fa] = some a) (hb : s.f[fb] = some b) :
    exec (.fsub fd fa fb) s = .next ((s.setReg fd (sub s.p a b)).respond .ok 0) := by
  rw [exec, execFsub, inMode_of_allowed (modeError_eq_none.mpr (by simp [hm])), readReg_of_some ha, readReg_of_some hb]
  rfl

/-- `FLDU fd, #0`, the pseudo-command `FZERO fd` (R63): `fd` holds 0 and every other register what it held. -/
theorem exec_fldu_zero {s : State} (fd : Reg) (hm : s.mode = .ready) :
    ∃ t, exec (.fldu fd) (s.withDin 0) = .next t ∧ t.mode = .ready ∧ t.p = s.p ∧
      ∀ r, t.f[r] = if r = fd then some 0 else s.f[r] := by
  have hzero : fe s.p (s.withDin 0).udin = 0 := by simp [State.udin, State.withDin, uint, fe]
  refine ⟨_, exec_fldu_of_ready fd hm, hm, rfl, fun r => ?_⟩
  rw [State.respond_f, State.setReg_reg, show (s.withDin 0).p = s.p from rfl, hzero]
  rfl

theorem runWithDin_cons {i : Instr} {d : Nat} {rest : List (Instr × Nat)} {s t : State}
    (h : exec i (s.withDin d) = .next t) : runWithDin ((i, d) :: rest) s = runWithDin rest t := by
  rw [runWithDin, show exec i { s with din := d } = .next t from h]

/-- Subtracting from 0 is negation modulo `P` (R66). -/
theorem sub_zero_left (p a : Nat) : sub p 0 a = (-(a : Int) % (p : Int)).toNat := by
  simp [sub, fe]

/-- Settles O60: the first command leaves 0 in `fd`, the second subtracts `fa`, which the first has not written. -/
theorem fnegExpansionNegates : Obligations.FnegExpansionNegates := by
  unfold Obligations.FnegExpansionNegates
  intro s fd fa a hm hne ha
  obtain ⟨t, hload, htm, htp, htf⟩ := exec_fldu_zero fd hm
  have hfd : t.f[fd] = some 0 := (htf fd).trans (if_pos rfl)
  have hfa : t.f[fa] = some a := (htf fa).trans ((if_neg hne.symm).trans ha)
  have hsub := exec_fsub_of_ready (s := t.withDin 0) fd htm hfd hfa
  refine ⟨_, _, if_neg hne, (runWithDin_cons hload).trans (runWithDin_cons hsub), ?_, fun r hr => ?_⟩
  · rw [State.respond_f, State.setReg_reg, if_pos rfl, sub_zero_left, ← htp]
    rfl
  · rw [State.respond_f, State.setReg_reg, if_neg hr]
    exact (htf r).trans (if_neg hr)

end Sys2Proof.Machine
end

section
/-! PROOF. The arithmetic of FAU as integer arithmetic (R64 to R69): what the loop of R68 computes, the residue that
each reading of `DIN` gives, and the laws of R84. -/

namespace Sys2Proof.Machine

/-! ### The square-and-multiply loop (R68) -/

/-- The loop's accumulator after one round. -/
def powAcc (p b e r : Nat) : Nat := if e % 2 = 1 then mul p r b else r

theorem powLoop_succ {p fuel b e r : Nat} (he : e ≠ 0) :
    powLoop p (fuel + 1) b e r = powLoop p fuel (mul p b b) (e / 2) (powAcc p b e r) := by
  rw [powLoop, if_neg he, powAcc]

theorem powAcc_mod {p b e r : Nat} (hr : r % p = r) : powAcc p b e r % p = powAcc p b e r := by
  unfold powAcc
  split
  · exact Nat.mod_mod _ p
  · exact hr

theorem mul_modEq (p a b : Nat) : mul p a b ≡ a * b [MOD p] := Nat.mod_modEq _ p

/-- One round keeps `r · b ^ e` modulo `p`: the square takes half the exponent, and the accumulator its odd bit. -/
theorem powAcc_mul_pow_modEq (p b e r : Nat) :
    powAcc p b e r * mul p b b ^ (e / 2) ≡ r * b ^ e [MOD p] := by
  have hsquare : mul p b b ^ (e / 2) ≡ b ^ (2 * (e / 2)) [MOD p] := by
    rw [pow_mul, pow_two]
    exact (mul_modEq p b b).pow _
  unfold powAcc
  split
  · next hodd =>
    have hb : b ^ e = b * b ^ (2 * (e / 2)) := by rw [← pow_succ']; congr 1; omega
    rw [hb, ← mul_assoc]
    exact (mul_modEq p r b).mul hsquare
  · next heven =>
    rw [show 2 * (e / 2) = e by omega] at hsquare
    exact hsquare.mul_left r

/-- The loop multiplies its accumulator by the power, once it has a round for every bit of the exponent. -/
theorem powLoop_eq {p fuel b e r : Nat} (he : e < 2 ^ fuel) (hr : r % p = r) :
    powLoop p fuel b e r = r * b ^ e % p := by
  induction fuel generalizing b e r with
  | zero =>
    obtain rfl : e = 0 := by simpa using he
    rw [pow_zero, mul_one, hr, powLoop]
  | succ fuel ih =>
    by_cases h0 : e = 0
    · rw [h0, pow_zero, mul_one, hr, powLoop, if_pos rfl]
    · have hhalf : e / 2 < 2 ^ fuel := by omega
      rw [powLoop_succ h0, ih hhalf (powAcc_mod hr)]
      exact powAcc_mul_pow_modEq p b e r

/-- `pow` is the power modulo `p` (R68). -/
theorem pow_eq (p x e : Nat) : pow p x e = x ^ e % p := by
  rw [pow, powLoop_eq Nat.lt_log2_self (Nat.mod_mod 1 p), Nat.mod_mul_mod, one_mul]

/-- Settles O30. -/
theorem powerLoopComputesPower : Obligations.PowerLoopComputesPower := by
  unfold Obligations.PowerLoopComputesPower
  exact pow_eq

/-! ### Construction of residues (R64), and the two readings of `DIN` (R12) -/

/-- The residue of a number that is not negative. -/
theorem fe_natCast (p n : Nat) : fe p n = n % p := by
  rw [fe, ← Int.natCast_mod, Int.toNat_natCast]

theorem State.udin_eq (s : State) : s.udin = s.din % 2 ^ s.build.dataBits := BitVec.toNat_ofNat _ _

/-- Two's complement: a word whose top bit is set stands for what it is short of `2 ^ D`. -/
theorem State.sdin_eq (s : State) :
    s.sdin = if 2 * s.udin < 2 ^ s.build.dataBits then (s.udin : Int) else s.udin - 2 ^ s.build.dataBits := by
  rw [State.sdin, sint, BitVec.toInt_eq_toNat_cond]
  push_cast
  rfl

/-! ### The laws of R84 -/

/-- Fermat: in a prime field the `(P − 2)`-th power is the inverse (R69, R84). -/
theorem mul_inv_of_prime {p a : Nat} (hp : p.Prime) (h0 : a ≠ 0) (ha : a < p) : mul p a (inv p a) = 1 := by
  have hcop : a.Coprime p := (Nat.coprime_of_lt_prime h0 ha hp).symm
  have hfermat : a ^ (p - 1) ≡ 1 [MOD p] := Nat.totient_prime hp ▸ Nat.ModEq.pow_totient hcop
  have hexp : p - 1 = p - 2 + 1 := by have := hp.two_le; omega
  calc mul p a (inv p a) = a ^ (p - 1) % p := by
        rw [mul, inv, pow_eq, Nat.mul_mod_mod, hexp, pow_succ']
    _ = 1 % p := hfermat
    _ = 1 := Nat.mod_eq_of_lt hp.one_lt

/-- Adding the residue of `P − a` to `a` wraps to 0 (R84). -/
theorem add_sub_residue {p a : Nat} (ha : a < p) : add p a ((p - a) % p) = 0 := by
  rw [add, Nat.add_mod_mod, Nat.add_sub_cancel' ha.le, Nat.mod_self]

end Sys2Proof.Machine
end

section
/-! PROOF. The commands of FAU (40_field_arithmetic.md section 2) in mode `READY` with sources that hold values: one
lemma per shape of rule, one equation per command, and the statements about single commands and about pairs of them. -/

namespace Sys2Proof.Machine

section
variable {s : State} {fa fb : Reg} {a b : Nat}

/-! ### Rules of one shape -/

theorem inMode_of_ready {rule : State → Result} (hm : s.mode = .ready) : inMode .ready s rule = rule s :=
  inMode_of_allowed (modeError_eq_none.mpr (by simp [hm]))

theorem readOne_of_ready {rule : State → Nat → Result} (hm : s.mode = .ready) (ha : s.f[fa] = some a) :
    (inMode .ready s fun s => readReg s fa (rule s)) = rule s a := by
  rw [inMode_of_ready hm, readReg_of_some ha]

theorem readTwo_of_ready {rule : State → Nat → Nat → Result} (hm : s.mode = .ready) (ha : s.f[fa] = some a)
    (hb : s.f[fb] = some b) :
    (inMode .ready s fun s => readReg s fa fun a => readReg s fb (rule s a)) = rule s a b := by
  rw [inMode_of_ready hm, readReg_of_some ha, readReg_of_some hb]

/-! ### One equation per command -/

theorem exec_flds_of_ready (fd : Reg) (hm : s.mode = .ready) :
    exec (.flds fd) s = .next ((s.setReg fd (fe s.p s.sdin)).respond .ok 0) := by
  rw [exec, execFlds, inMode_of_ready hm, done]

theorem exec_fst_of_ready (hm : s.mode = .ready) (ha : s.f[fa] = some a) :
    exec (.fst fa) s = .next (s.respond .ok a) := by
  rw [exec, execFst, readOne_of_ready hm ha, done]

theorem exec_fmv_of_ready (fd : Reg) (hm : s.mode = .ready) (ha : s.f[fa] = some a) :
    exec (.fmv fd fa) s = .next ((s.setReg fd a).respond .ok 0) := by
  rw [exec, execFmv, readOne_of_ready hm ha, done]

theorem exec_fpow_of_ready (fd : Reg) (hm : s.mode = .ready) (ha : s.f[fa] = some a) :
    exec (.fpow fd fa) s = .next ((s.setReg fd (pow s.p a s.udin)).respond .ok 0) := by
  rw [exec, execFpow, readOne_of_ready hm ha, done]

theorem exec_finv_of_ready (fd : Reg) (hm : s.mode = .ready) (ha : s.f[fa] = some a) :
    exec (.finv fd fa) s = if a = 0 then fail s .invop else done (s.setReg fd (inv s.p a)) 0 := by
  rw [exec, execFinv, readOne_of_ready hm ha]

theorem exec_finv_of_ne_zero (fd : Reg) (hm : s.mode = .ready) (ha : s.f[fa] = some a) (h0 : a ≠ 0) :
    exec (.finv fd fa) s = .next ((s.setReg fd (inv s.p a)).respond .ok 0) := by
  rw [exec_finv_of_ready fd hm ha, if_neg h0, done]

theorem exec_finv_of_zero (fd : Reg) (hm : s.mode = .ready) (ha : s.f[fa] = some 0) :
    exec (.finv fd fa) s = .next (s.respond .invop 0) := by
  rw [exec_finv_of_ready fd hm ha, if_pos rfl, fail, State.raise_of_not_fatal s rfl]

theorem exec_fadd_of_ready (fd : Reg) (hm : s.mode = .ready) (ha : s.f[fa] = some a) (hb : s.f[fb] = some b) :
    exec (.fadd fd fa fb) s = .next ((s.setReg fd (add s.p a b)).respond .ok 0) := by
  rw [exec, execFadd, readTwo_of_ready hm ha hb, done]

theorem exec_fmul_of_ready (fd : Reg) (hm : s.mode = .ready) (ha : s.f[fa] = some a) (hb : s.f[fb] = some b) :
    exec (.fmul fd fa fb) s = .next ((s.setReg fd (mul s.p a b)).respond .ok 0) := by
  rw [exec, execFmul, readTwo_of_ready hm ha hb, done]

theorem exec_feq_of_ready (hm : s.mode = .ready) (ha : s.f[fa] = some a) (hb : s.f[fb] = some b) :
    exec (.feq fa fb) s = .next (s.respond .ok (feqValue a b)) := by
  rw [exec, execFeq, readTwo_of_ready hm ha hb, done]

theorem exec_flt_of_ready (hm : s.mode = .ready) (ha : s.f[fa] = some a) (hb : s.f[fb] = some b) :
    exec (.flt fa fb) s = .next (s.respond .ok (fltValue a b)) := by
  rw [exec, execFlt, readTwo_of_ready hm ha hb, done]

end

/-! ### Single commands -/

/-- Settles O31. -/
theorem fpowRaisesToDin : Obligations.FpowRaisesToDin := by
  unfold Obligations.FpowRaisesToDin
  intro s fd fa x hm hx
  rw [exec_fpow_of_ready fd hm hx, pow_eq, State.udin_eq]
  rfl

/-- Settles O32. -/
theorem finvIsFermatPower : Obligations.FinvIsFermatPower := by
  unfold Obligations.FinvIsFermatPower
  intro s fd fa a hm ha
  refine ⟨fun h0 => ?_, fun h0 => ?_⟩
  · rw [exec_finv_of_ne_zero fd hm ha h0, inv, pow_eq]
    rfl
  · subst h0
    exact exec_finv_of_zero fd hm ha

/-- Settles O28: the two readings of the data word, each reduced. -/
theorem loadsConstructFieldElements : Obligations.LoadsConstructFieldElements := by
  unfold Obligations.LoadsConstructFieldElements
  intro s fd u hm hu
  rw [← State.udin_eq] at hu
  subst hu
  refine ⟨?_, fun hlow => ?_, fun hhigh => ?_⟩
  · rw [exec_fldu_of_ready fd hm, fe_natCast]
    rfl
  · rw [exec_flds_of_ready fd hm, State.sdin_eq, if_pos hlow, fe_natCast]
    rfl
  · rw [exec_flds_of_ready fd hm, State.sdin_eq, if_neg hhigh.not_gt]
    rfl

/-- Settles O29: the equations of the three commands, whose results are R65, R66 and R67 as they stand. -/
theorem addSubMulAreModular : Obligations.AddSubMulAreModular := by
  unfold Obligations.AddSubMulAreModular
  intro s fd fa fb a b hm ha hb
  exact ⟨exec_fadd_of_ready fd hm ha hb, exec_fsub_of_ready fd hm ha hb, exec_fmul_of_ready fd hm ha hb⟩

/-- Settles O34. -/
theorem comparisonsAnswerOnDout : Obligations.ComparisonsAnswerOnDout := by
  unfold Obligations.ComparisonsAnswerOnDout
  intro s fa fb a b hm ha hb
  exact ⟨exec_feq_of_ready hm ha hb, exec_flt_of_ready hm ha hb⟩

/-- Settles O35. -/
theorem storeAndMoveRegister : Obligations.StoreAndMoveRegister := by
  unfold Obligations.StoreAndMoveRegister
  intro s fd fa v hm hv
  exact ⟨exec_fst_of_ready hm hv, exec_fmv_of_ready fd hm hv⟩

/-! ### Two commands, one after the other (R84) -/

theorem runInstrs_pair {i j : Instr} {s t u : State} (hi : exec i s = .next t) (hj : exec j t = .next u) :
    runInstrs [i, j] s = .next u := by
  simp only [runInstrs, hi, hj]

/-- A register just written reads back as it was written. -/
theorem State.setReg_reg_same (s : State) (fd : Reg) (v : Nat) : (s.setReg fd v).f[fd] = some v := by
  rw [State.setReg_reg, if_pos rfl]

theorem State.setReg_reg_of_ne (s : State) {fd r : Reg} (v : Nat) (h : r ≠ fd) : (s.setReg fd v).f[r] = s.f[r] := by
  rw [State.setReg_reg, if_neg h]

/-- Settles O33: the first command leaves `r0` alone and puts its inverse, or its negative, in `r1`. -/
theorem fieldRoundTrips : Obligations.FieldRoundTrips := by
  unfold Obligations.FieldRoundTrips
  intro s r0 r1 r2 a hm hne ha hlt
  refine ⟨fun hp h0 => ?_, fun _ hfits hdin => ?_⟩
  · have hmul := exec_fmul_of_ready (s := (s.setReg r1 (inv s.p a)).respond .ok 0) r2 hm
      ((s.setReg_reg_of_ne _ hne).trans ha) (s.setReg_reg_same r1 _)
    refine ⟨_, runInstrs_pair (exec_finv_of_ne_zero r1 hm ha h0) hmul, ?_⟩
    exact (State.setReg_reg_same _ r2 _).trans (congrArg some (mul_inv_of_prime hp h0 hlt))
  · have hload : fe s.p s.udin = (s.p - a) % s.p := by
      rw [fe_natCast, State.udin_eq, hdin, Nat.mod_eq_of_lt (a := s.p - a) (by omega)]
    have hadd := exec_fadd_of_ready (s := (s.setReg r1 (fe s.p s.udin)).respond .ok 0) r2 hm
      ((s.setReg_reg_of_ne _ hne).trans ha) (s.setReg_reg_same r1 _)
    refine ⟨_, runInstrs_pair (exec_fldu_of_ready r1 hm) hadd, ?_⟩
    exact (State.setReg_reg_same _ r2 _).trans (congrArg some (hload ▸ add_sub_residue hlt))

end Sys2Proof.Machine
end

section
/-! PROOF. The commands of the parameter store (41_parameter_store.md) one at a time: one equation for each end a command
can come to, and the statements read off the equations. -/

namespace Sys2Proof.Machine

section
variable {s : State}

/-! ### The ends of a rule, and the mode checks of the parameter store -/

theorem fail_of_not_fatal (s : State) {e : Status} (he : e.isFatal = false) : fail s e = .next (s.respond e 0) := by
  rw [fail, s.raise_of_not_fatal he]

theorem inMode_of_unconf {rule : State → Result} (hm : s.mode = .unconf) : inMode .unconf s rule = rule s :=
  inMode_of_allowed (modeError_eq_none.mpr (by simp [hm]))

theorem inMode_of_not_fatal {rule : State → Result} (hm : s.mode ≠ .fatal) : inMode .unconfOrReady s rule = rule s :=
  inMode_of_allowed (modeError_eq_none.mpr (by simp [hm]))

/-- A write to a store that is locked (R86, R134). -/
theorem inMode_of_locked {rule : State → Result} (hm : s.mode = .ready) :
    inMode .unconf s rule = .next (s.respond .locked 0) := by
  have hlocked : modeError .unconf s.mode = some .locked := by rw [hm]; rfl
  rw [inMode, hlocked]
  exact fail_of_not_fatal s rfl

/-! ### The configuration registers (R87, R92) -/

theorem exec_pcfg_of_some {sel : Nat} {s' : State} (hm : s.mode = .unconf) (hs : s.setCfg sel s.udin = some s') :
    exec (.pcfg sel) s = .next (s'.respond .ok 0) := by
  rw [exec, execPcfg, inMode_of_unconf hm, hs]
  rfl

theorem exec_pcfg_of_outside {sel : Nat} (hm : s.mode = .unconf) (hs : 6 ≤ sel) :
    exec (.pcfg sel) s = .next (s.respond .index 0) := by
  rw [exec, execPcfg, inMode_of_unconf hm, State.setCfg_eq_none.mpr hs]
  exact fail_of_not_fatal s rfl

/-- The configuration space as the list of its registers (R38). -/
theorem State.cfgAt_eq_getElem? (s : State) (sel : Nat) :
    s.cfgAt sel = [s.p, s.m, s.n, s.alpha, s.ainv, s.rate][sel]? := by
  rcases sel with _ | _ | _ | _ | _ | _ | sel <;> rfl

theorem exec_prdcfg_of_some {sel v : Nat} (hm : s.mode ≠ .fatal) (hv : s.cfgAt sel = some v) :
    exec (.prdcfg sel) s = .next (s.respond .ok v) := by
  rw [exec, execPrdcfg, inMode_of_not_fatal hm, hv]
  rfl

theorem exec_prdcfg_of_none {sel : Nat} (hm : s.mode ≠ .fatal) (hv : s.cfgAt sel = none) :
    exec (.prdcfg sel) s = .next (s.respond .index 0) := by
  rw [exec, execPrdcfg, inMode_of_not_fatal hm, hv]
  exact fail_of_not_fatal s rfl

/-! ### The tables (R88, R89, R93, R94) -/

theorem exec_pmds_of_lt (hm : s.mode = .unconf) (hc : s.mdsCnt < s.build.mdsCap) :
    exec .pmds s = .next ((s.setMds (s.mdsBuf ++ [s.udin]) (s.mdsCnt + 1)).respond .ok 0) := by
  rw [exec, execPmds, inMode_of_unconf hm, if_pos hc, done]

theorem exec_pmds_of_full (hm : s.mode = .unconf) (hc : s.build.mdsCap ≤ s.mdsCnt) :
    exec .pmds s = .next ((s.setMds s.mdsBuf (s.build.mdsCap + 1)).respond .index 0) := by
  rw [exec, execPmds, inMode_of_unconf hm, if_neg hc.not_gt, fail_of_not_fatal _ rfl]

theorem exec_prck_of_lt (hm : s.mode = .unconf) (hc : s.rcCnt < s.build.rcCap) :
    exec .prck s = .next ((s.setRc (s.rcBuf ++ [s.udin]) (s.rcCnt + 1)).respond .ok 0) := by
  rw [exec, execPrck, inMode_of_unconf hm, if_pos hc, done]

theorem exec_prck_of_full (hm : s.mode = .unconf) (hc : s.build.rcCap ≤ s.rcCnt) :
    exec .prck s = .next ((s.setRc s.rcBuf (s.build.rcCap + 1)).respond .index 0) := by
  rw [exec, execPrck, inMode_of_unconf hm, if_neg hc.not_gt, fail_of_not_fatal _ rfl]

theorem tableAt_of_getElem? {buf : List Nat} {q v : Nat} (h : buf[q]? = some v) : tableAt buf q = v := by
  rw [tableAt, List.getD_eq_getElem?_getD, h, Option.getD_some]

theorem exec_prdmds_of_lt {q : Nat} (hm : s.mode ≠ .fatal) (hq : q < s.mdsCnt) (hcap : q < s.build.mdsCap) :
    exec (.prdmds q) s = .next (s.respond .ok (tableAt s.mdsBuf q)) := by
  rw [exec, execPrdmds, inMode_of_not_fatal hm, if_neg (by omega), done]

theorem exec_prdmds_of_outside {q : Nat} (hm : s.mode ≠ .fatal) (hq : s.mdsCnt ≤ q ∨ s.build.mdsCap ≤ q) :
    exec (.prdmds q) s = .next (s.respond .index 0) := by
  rw [exec, execPrdmds, inMode_of_not_fatal hm, if_pos hq, fail_of_not_fatal s rfl]

theorem exec_prdrc_of_lt {q : Nat} (hm : s.mode ≠ .fatal) (hq : q < s.rcCnt) (hcap : q < s.build.rcCap) :
    exec (.prdrc q) s = .next (s.respond .ok (tableAt s.rcBuf q)) := by
  rw [exec, execPrdrc, inMode_of_not_fatal hm, if_neg (by omega), done]

theorem exec_prdrc_of_outside {q : Nat} (hm : s.mode ≠ .fatal) (hq : s.rcCnt ≤ q ∨ s.build.rcCap ≤ q) :
    exec (.prdrc q) s = .next (s.respond .index 0) := by
  rw [exec, execPrdrc, inMode_of_not_fatal hm, if_pos hq, fail_of_not_fatal s rfl]

/-! ### Commit and clear (R90, R91) -/

theorem exec_pcommit_of_valid (hm : s.mode = .unconf) (hok : s.paramsOk = true) :
    exec .pcommit s = .next (s.committed.respond .ok 0) := by
  rw [exec, execPcommit, inMode_of_unconf hm, if_pos hok, done]

theorem exec_pcommit_of_invalid (hm : s.mode = .unconf) (hok : ¬ s.paramsOk = true) :
    exec .pcommit s = .next (s.raise .param) := by
  rw [exec, execPcommit, inMode_of_unconf hm, if_neg hok, fail]

theorem exec_pclear_of_unconf (hm : s.mode = .unconf) : exec .pclear s = .next (s.cleared.respond .ok 0) := by
  rw [exec, execPclear, inMode_of_unconf hm, done]

end

/-! ### The statements -/

/-- Settles O51: the write of each of the six registers, and the selectors that name none. -/
theorem pcfgWritesConfiguration : Obligations.PcfgWritesConfiguration := by
  unfold Obligations.PcfgWritesConfiguration
  intro s u hm hu
  rw [← State.udin_eq] at hu
  subst hu
  have hwrite (sel : Nat) {s' : State} := exec_pcfg_of_some (sel := sel) (s' := s') hm
  exact ⟨(hwrite 0 rfl :), (hwrite 1 rfl :), (hwrite 2 rfl :), (hwrite 3 rfl :), (hwrite 4 rfl :), (hwrite 5 rfl :),
    fun sel hsel => exec_pcfg_of_outside hm hsel⟩

/-- Settles O52. -/
theorem pmdsAppendsMatrixEntry : Obligations.PmdsAppendsMatrixEntry := by
  unfold Obligations.PmdsAppendsMatrixEntry
  intro s hm
  rw [← State.udin_eq]
  exact ⟨exec_pmds_of_lt hm, exec_pmds_of_full hm⟩

/-- Settles O53. -/
theorem prckAppendsConstant : Obligations.PrckAppendsConstant := by
  unfold Obligations.PrckAppendsConstant
  intro s hm
  rw [← State.udin_eq]
  exact ⟨exec_prck_of_lt hm, exec_prck_of_full hm⟩

/-- Settles O54: the conjunction of the statement is the checks (a) to (g) of the model, and each end is one equation. -/
theorem pcommitValidatesAndLocks : Obligations.PcommitValidatesAndLocks := by
  unfold Obligations.PcommitValidatesAndLocks
  intro s valid hm hvalid
  have hok : valid ↔ s.paramsOk = true := by rw [hvalid, State.paramsOk_iff]; simp only [and_assoc]
  rw [hok]
  exact ⟨exec_pcommit_of_valid hm, exec_pcommit_of_invalid hm⟩

/-- Settles O55. -/
theorem pclearEmptiesStore : Obligations.PclearEmptiesStore := by
  unfold Obligations.PclearEmptiesStore
  intro s hm
  exact exec_pclear_of_unconf hm

/-- Settles O56: a read inside its space answers the register or the entry, and one outside it `E_INDEX`. -/
theorem parameterReadsAnswerEntries : Obligations.ParameterReadsAnswerEntries := by
  unfold Obligations.ParameterReadsAnswerEntries
  intro s q v hm
  rw [← State.cfgAt_eq_getElem?]
  refine ⟨exec_prdcfg_of_some hm, fun hq => exec_prdcfg_of_none hm ?_, fun hq hcap hv => ?_,
    exec_prdmds_of_outside hm, fun hq hcap hv => ?_, exec_prdrc_of_outside hm⟩
  · rw [State.cfgAt_eq_getElem?]
    exact List.getElem?_eq_none hq
  · rw [← tableAt_of_getElem? hv]
    exact exec_prdmds_of_lt hm hq hcap
  · rw [← tableAt_of_getElem? hv]
    exact exec_prdrc_of_lt hm hq hcap

/-! ### The locked store (R86) -/

/-- The five parameter writes in mode `READY` (R86, R134). -/
theorem exec_of_locked {i : Instr} {s : State} (hm : s.mode = .ready)
    (hi : i = .pmds ∨ i = .prck ∨ i = .pcommit ∨ i = .pclear ∨ ∃ sel, i = .pcfg sel) :
    exec i s = .next (s.respond .locked 0) := by
  obtain rfl | rfl | rfl | rfl | ⟨sel, rfl⟩ := hi <;>
    simp only [exec, execPmds, execPrck, execPcommit, execPclear, execPcfg, inMode_of_locked hm]

/-- Every effect that writes the parameter store, or moves the mode, needs mode `UNCONF`. -/
theorem exec_keeps_store_of_ready {i : Instr} {s t : State} (hm : s.mode = .ready) (h : exec i s = .next t) :
    t.mode = s.mode ∧ t.params = s.params ∧ t.mdsCnt = s.mdsCnt ∧ t.rcCnt = s.rcCnt := by
  have hunconf : s.mode ≠ .unconf := by simp [hm]
  cases exec_effect h with
  | config _ _ _ hu | mdsAppended _ hu | mdsOverflowed hu | rcAppended _ hu | rcOverflowed hu | committed hu
  | commitFailed hu | cleared hu => exact absurd hu hunconf
  | _ => simp

/-- Settles O15: no command that goes on moves the store, and the five writes are stopped by the mode check. -/
theorem readyStoreIsImmutable : Obligations.ReadyStoreIsImmutable := by
  unfold Obligations.ReadyStoreIsImmutable
  intro i s t hm h
  obtain ⟨hmode, hparams, hmdsCnt, hrcCnt⟩ := exec_keeps_store_of_ready hm h
  refine ⟨hmode.trans hm, congrArg Params.p hparams, congrArg Params.m hparams, congrArg Params.n hparams,
    congrArg Params.alpha hparams, congrArg Params.ainv hparams, congrArg Params.rate hparams,
    congrArg Params.mds hparams, congrArg Params.rc hparams, hmdsCnt, hrcCnt, fun hi => ?_⟩
  have hnext : Host.Outcome.next t = .next (s.respond .locked 0) := h.symm.trans (exec_of_locked hm hi)
  cases hnext
  rfl

end Sys2Proof.Machine
end

section
/-! PROOF. The load of the parameter store (R95): each load command appends to one stream, what a run of them leaves is
described by the streams, and the descriptions of two runs compose. -/

namespace Sys2Proof.Machine

/-! ### Filling a table -/

/-- A table's entries and its fill counter after one append (R88, R89). -/
def appendEntry (cap : Nat) (table : List Nat × Nat) (v : Nat) : List Nat × Nat :=
  if table.2 < cap then (table.1 ++ [v], table.2 + 1) else (table.1, cap + 1)

theorem appendEntry_of_lt {cap cnt : Nat} (buf : List Nat) (v : Nat) (h : cnt < cap) :
    appendEntry cap (buf, cnt) v = (buf ++ [v], cnt + 1) := if_pos h

theorem appendEntry_of_full {cap cnt : Nat} (buf : List Nat) (v : Nat) (h : cap ≤ cnt) :
    appendEntry cap (buf, cnt) v = (buf, cap + 1) := if_neg h.not_gt

/-- An empty table filled with `vs` holds them in order up to its capacity, and counts them up to the overflow mark. -/
theorem foldl_appendEntry (cap : Nat) (vs : List Nat) :
    vs.foldl (appendEntry cap) ([], 0) = (vs.take cap, min vs.length (cap + 1)) := by
  induction vs using List.reverseRecOn with
  | nil => simp
  | append_singleton vs v ih =>
    rw [List.foldl_concat, ih]
    by_cases h : vs.length < cap
    · rw [appendEntry_of_lt _ v (by omega), List.take_of_length_le (by omega),
        List.take_of_length_le (by simp; omega), List.length_append, List.length_singleton]
      congr 1
      omega
    · rw [appendEntry_of_full _ v (by omega), List.take_append_of_le_length (by omega), List.length_append,
        List.length_singleton]
      congr 1
      omega

/-! ### The streams of a load, and what they leave -/

/-- The values that the command `i` is given in a load, in order, as `D`-bit words. -/
def loadStream (b : Build) (i : Instr) (cmds : List (Instr × Nat)) : List Nat :=
  (cmds.filter fun c => decide (c.1 = i)).map fun c => c.2 % 2 ^ b.dataBits

theorem loadStream_append (b : Build) (i : Instr) (xs ys : List (Instr × Nat)) :
    loadStream b i (xs ++ ys) = loadStream b i xs ++ loadStream b i ys := by
  simp [loadStream]

theorem loadStream_self (b : Build) (i : Instr) (d : Nat) : loadStream b i [(i, d)] = [d % 2 ^ b.dataBits] := by
  simp [loadStream]

theorem loadStream_of_ne (b : Build) {i j : Instr} (d : Nat) (h : j ≠ i) : loadStream b i [(j, d)] = [] := by
  simp [loadStream, h]

/-- `t` is what the load `cmds` makes of `s`: each register its stream's last value, each table its stream's values
appended. -/
structure LoadedBy (cmds : List (Instr × Nat)) (s t : State) : Prop where
  build_eq : t.build = s.build
  mode_eq : t.mode = s.mode
  cfg : ∀ sel < 6, t.cfgAt sel = (loadStream s.build (.pcfg sel) cmds).getLast?.or (s.cfgAt sel)
  mds : (t.mdsBuf, t.mdsCnt) =
    (loadStream s.build .pmds cmds).foldl (appendEntry s.build.mdsCap) (s.mdsBuf, s.mdsCnt)
  rc : (t.rcBuf, t.rcCnt) =
    (loadStream s.build .prck cmds).foldl (appendEntry s.build.rcCap) (s.rcBuf, s.rcCnt)

theorem LoadedBy.refl (s : State) : LoadedBy [] s s := ⟨rfl, rfl, fun _ _ => rfl, rfl, rfl⟩

theorem LoadedBy.append {xs ys : List (Instr × Nat)} {s t u : State} (h : LoadedBy xs s t) (h' : LoadedBy ys t u) :
    LoadedBy (xs ++ ys) s u where
  build_eq := h'.build_eq.trans h.build_eq
  mode_eq := h'.mode_eq.trans h.mode_eq
  cfg sel hsel := by
    rw [h'.cfg sel hsel, h.cfg sel hsel, h.build_eq, loadStream_append, List.getLast?_append, Option.or_assoc]
  mds := by rw [h'.mds, h.mds, h.build_eq, loadStream_append, List.foldl_append]
  rc := by rw [h'.rc, h.rc, h.build_eq, loadStream_append, List.foldl_append]

/-! ### One load command -/

/-- The commands of a load (R95). -/
def Instr.IsLoad (i : Instr) : Prop := i = .pmds ∨ i = .prck ∨ ∃ sel, i = .pcfg sel

theorem State.withDin_udin (s : State) (d : Nat) : (s.withDin d).udin = d % 2 ^ s.build.dataBits := State.udin_eq _

section
variable {s : State}

/-- `PMDS` is one append of the data word to `MDSBUF`, whatever it answers (R88). -/
theorem exec_pmds_appends (hm : s.mode = .unconf) :
    ∃ buf cnt st, exec .pmds s = .next ((s.setMds buf cnt).respond st 0) ∧
      (buf, cnt) = appendEntry s.build.mdsCap (s.mdsBuf, s.mdsCnt) s.udin := by
  obtain hc | hc := lt_or_ge s.mdsCnt s.build.mdsCap
  · exact ⟨_, _, _, exec_pmds_of_lt hm hc, (appendEntry_of_lt _ _ hc).symm⟩
  · exact ⟨_, _, _, exec_pmds_of_full hm hc, (appendEntry_of_full _ _ hc).symm⟩

theorem pmds_loads (d : Nat) (hm : s.mode = .unconf) :
    ∃ t, exec .pmds (s.withDin d) = .next t ∧ LoadedBy [(.pmds, d)] s t := by
  obtain ⟨buf, cnt, st, h, htable⟩ := exec_pmds_appends (s := s.withDin d) hm
  refine ⟨_, h, rfl, rfl, fun sel _ => ?_, ?_, ?_⟩
  · rw [loadStream_of_ne _ _ (by simp)]
    rfl
  · rw [loadStream_self, ← State.withDin_udin]
    exact htable
  · rw [loadStream_of_ne _ _ (by simp)]
    rfl

/-- `PRCK` is one append of the data word to `RCBUF`, whatever it answers (R89). -/
theorem exec_prck_appends (hm : s.mode = .unconf) :
    ∃ buf cnt st, exec .prck s = .next ((s.setRc buf cnt).respond st 0) ∧
      (buf, cnt) = appendEntry s.build.rcCap (s.rcBuf, s.rcCnt) s.udin := by
  obtain hc | hc := lt_or_ge s.rcCnt s.build.rcCap
  · exact ⟨_, _, _, exec_prck_of_lt hm hc, (appendEntry_of_lt _ _ hc).symm⟩
  · exact ⟨_, _, _, exec_prck_of_full hm hc, (appendEntry_of_full _ _ hc).symm⟩

theorem prck_loads (d : Nat) (hm : s.mode = .unconf) :
    ∃ t, exec .prck (s.withDin d) = .next t ∧ LoadedBy [(.prck, d)] s t := by
  obtain ⟨buf, cnt, st, h, htable⟩ := exec_prck_appends (s := s.withDin d) hm
  refine ⟨_, h, rfl, rfl, fun sel _ => ?_, ?_, ?_⟩
  · rw [loadStream_of_ne _ _ (by simp)]
    rfl
  · rw [loadStream_of_ne _ _ (by simp)]
    rfl
  · rw [loadStream_self, ← State.withDin_udin]
    exact htable

/-- A `PCFG` whose selector names no register is an error, and belongs to the stream of none (R87). -/
theorem pcfg_loads (sel d : Nat) (hm : s.mode = .unconf) :
    ∃ t, exec (.pcfg sel) (s.withDin d) = .next t ∧ LoadedBy [(.pcfg sel, d)] s t := by
  cases hs : (s.withDin d).setCfg sel (s.withDin d).udin with
  | none =>
    have hsel : 5 < sel := State.setCfg_eq_none.mp hs
    refine ⟨_, exec_pcfg_of_outside hm hsel, rfl, rfl, fun k hk => ?_, ?_, ?_⟩
    · rw [loadStream_of_ne _ _ (by simp; omega)]
      rfl
    all_goals
      rw [loadStream_of_ne _ _ (by simp)]
      rfl
  | some s' =>
    have hframe := State.setCfg_frame hs
    refine ⟨_, exec_pcfg_of_some hm hs, ?_, ?_, fun k _ => ?_, ?_, ?_⟩
    · rw [hframe]
      rfl
    · rw [hframe]
      rfl
    · rw [show (s'.respond .ok 0).cfgAt k = s'.cfgAt k from rfl, State.setCfg_cfgAt hs]
      split
      · next heq =>
        rw [heq, loadStream_self, State.withDin_udin]
        rfl
      · next hne =>
        rw [loadStream_of_ne _ _ (by simpa [eq_comm] using hne)]
        rfl
    all_goals
      rw [loadStream_of_ne _ _ (by simp), hframe]
      rfl

theorem Instr.IsLoad.loads {i : Instr} (hi : Instr.IsLoad i) (d : Nat) (hm : s.mode = .unconf) :
    ∃ t, exec i (s.withDin d) = .next t ∧ LoadedBy [(i, d)] s t := by
  obtain rfl | rfl | ⟨sel, rfl⟩ := hi
  · exact pmds_loads d hm
  · exact prck_loads d hm
  · exact pcfg_loads sel d hm

end

/-! ### A whole load -/

/-- A load runs to its end from any state of mode `UNCONF`, and its streams say what it leaves. -/
theorem runWithDin_loads {cmds : List (Instr × Nat)} (hcmds : ∀ c ∈ cmds, Instr.IsLoad c.1) {s : State}
    (hm : s.mode = .unconf) : ∃ t, runWithDin cmds s = .next t ∧ LoadedBy cmds s t := by
  induction cmds generalizing s with
  | nil => exact ⟨s, rfl, .refl s⟩
  | cons c rest ih =>
    obtain ⟨i, d⟩ := c
    rw [List.forall_mem_cons] at hcmds
    obtain ⟨hi, hrest⟩ := hcmds
    obtain ⟨u, hexec, hu⟩ := hi.loads d hm
    obtain ⟨t, hrun, ht⟩ := ih hrest (hu.mode_eq.trans hm)
    exact ⟨t, (runWithDin_cons hexec).trans hrun, hu.append ht⟩

/-- Settles O57: the streams of the whole load, appended to empty tables. -/
theorem loadDependsOnStreamsAlone : Obligations.LoadDependsOnStreamsAlone := by
  unfold Obligations.LoadDependsOnStreamsAlone
  intro s cmds hm hmdsBuf hrcBuf hmdsCnt hrcCnt hcmds
  obtain ⟨t, hrun, ht⟩ := runWithDin_loads hcmds hm
  have hmdsTable := ht.mds
  have hrcTable := ht.rc
  rw [hmdsBuf, hmdsCnt, foldl_appendEntry, Prod.mk.injEq, loadStream, List.length_map] at hmdsTable
  rw [hrcBuf, hrcCnt, foldl_appendEntry, Prod.mk.injEq, loadStream, List.length_map] at hrcTable
  obtain ⟨hmds, hmdsNum⟩ := hmdsTable
  obtain ⟨hrc, hrcNum⟩ := hrcTable
  exact ⟨t, hrun, ht.cfg, hmds, hmdsNum, hrc, hrcNum⟩

end Sys2Proof.Machine
end

section
/-! PROOF. The layers of the permutation as integer arithmetic (R96 to R99): what each leaves at every index, and the
inverse pair of S-boxes over a prime field (R105). -/

namespace Sys2Proof.Machine

/-! ### The layers at an index -/

theorem sbox_eq (ps : Params) (e : Nat) (t : List Nat) : sbox ps e t = t.map fun x => x ^ e % ps.p :=
  List.map_congr_left fun x _ => pow_eq ps.p x e

theorem sbox_getD (ps : Params) (e : Nat) {t : List Nat} {j : Nat} (hj : j < t.length) :
    (sbox ps e t).getD j 0 = t.getD j 0 ^ e % ps.p := by
  have hj' : j < (sbox ps e t).length := by rwa [sbox_length]
  rw [List.getD_eq_getElem _ _ hj', List.getD_eq_getElem _ _ hj]
  simp only [sbox_eq, List.getElem_map]

/-- Row `i` of the product is the integer sum, reduced once (R97). -/
theorem mdsMul_eq (ps : Params) (t : List Nat) :
    mdsMul ps t = (List.range ps.m).map fun i =>
      (∑ j ∈ Finset.range ps.m, ps.mds.getD (i * ps.m + j) 0 * t.getD j 0) % ps.p := rfl

theorem mdsMul_getD (ps : Params) (t : List Nat) {i : Nat} (hi : i < ps.m) :
    (mdsMul ps t).getD i 0 = (∑ j ∈ Finset.range ps.m, ps.mds.getD (i * ps.m + j) 0 * t.getD j 0) % ps.p := by
  rw [mdsMul_eq, List.getD_eq_getElem _ _ (by simpa using hi), List.getElem_map, List.getElem_range]

/-- The added constants, index by index (R98). -/
theorem addRc_eq (ps : Params) (k : Nat) {t : List Nat} (ht : t.length = ps.m) :
    addRc ps k t = (List.range ps.m).map fun j => (t.getD j 0 + ps.rc.getD (k * ps.m + j) 0) % ps.p := by
  refine List.ext_getElem (by simp [ht]) fun j hj _ => ?_
  have hj : j < t.length := by simpa using hj
  simp only [addRc, List.getElem_mapIdx, List.getElem_map, List.getElem_range, List.getD_eq_getElem _ _ hj]
  rfl

/-- A half-round at every index: S-box, matrix row, constant (R99). -/
theorem halfRound_eq (ps : Params) {t : List Nat} (h : Nat) (ht : t.length = ps.m) :
    halfRound ps t h = (List.range ps.m).map fun i =>
      ((∑ j ∈ Finset.range ps.m, ps.mds.getD (i * ps.m + j) 0 * (t.getD j 0 ^ ps.exponent h % ps.p)) % ps.p +
        ps.rc.getD (h * ps.m + i) 0) % ps.p := by
  rw [halfRound, addRc_eq ps h (mdsMul_length ps _)]
  refine List.map_congr_left fun i hi => ?_
  have hrow : (mdsMul ps (sbox ps (ps.exponent h) t)).getD i 0 =
      (∑ j ∈ Finset.range ps.m, ps.mds.getD (i * ps.m + j) 0 * (t.getD j 0 ^ ps.exponent h % ps.p)) % ps.p := by
    rw [mdsMul_getD ps _ (List.mem_range.mp hi)]
    congr 1
    refine Finset.sum_congr rfl fun j hj => ?_
    rw [sbox_getD ps _ (ht ▸ Finset.mem_range.mp hj)]
  rw [hrow]

theorem foldl_halfRound_length {ps : Params} (hs : List Nat) {t : List Nat} (ht : t.length = ps.m) :
    (hs.foldl (halfRound ps) t).length = ps.m := by
  induction hs generalizing t with
  | nil => exact ht
  | cons h rest ih => exact ih (halfRound_length ps t h)

/-! ### The inverse pair of S-boxes (R105) -/

/-- Fermat: over a prime field an exponent of 1 or more counts modulo `P − 1` only. -/
theorem pow_mod_of_modEq_one {p x e : Nat} (hp : p.Prime) (hx : x < p) (he : 1 ≤ e) (h : e ≡ 1 [MOD p - 1]) :
    x ^ e % p = x := by
  obtain rfl | h0 := Nat.eq_zero_or_pos x
  · rw [Nat.zero_pow he, Nat.zero_mod]
  · obtain ⟨k, hk⟩ := (Nat.modEq_iff_dvd' he).mp h.symm
    have hcop : x.Coprime p := (Nat.coprime_of_lt_prime h0.ne' hx hp).symm
    have hfermat : x ^ (p - 1) ≡ 1 [MOD p] := Nat.totient_prime hp ▸ Nat.ModEq.pow_totient hcop
    have hexp : e = (p - 1) * k + 1 := by omega
    calc x ^ e % p = (x ^ (p - 1)) ^ k * x % p := by rw [hexp, pow_succ, pow_mul]
      _ = 1 ^ k * x % p := (hfermat.pow k).mul_right x
      _ = x := by rw [one_pow, one_mul, Nat.mod_eq_of_lt hx]

theorem sbox_sbox_of_inverse {ps : Params} {t : List Nat} (hp : ps.p.Prime) (ht : ∀ x ∈ t, x < ps.p)
    (ha : 1 ≤ ps.alpha) (hi : 1 ≤ ps.ainv) (h : ps.alpha * ps.ainv ≡ 1 [MOD ps.p - 1]) :
    sbox ps ps.ainv (sbox ps ps.alpha t) = t := by
  rw [sbox_eq, sbox_eq, List.map_map]
  refine (List.map_congr_left fun x hx => ?_).trans (List.map_id t)
  show (x ^ ps.alpha % ps.p) ^ ps.ainv % ps.p = x
  rw [← Nat.pow_mod, ← pow_mul]
  exact pow_mod_of_modEq_one hp (ht x hx) (Nat.mul_pos ha hi) h

end Sys2Proof.Machine
end

section
/-! PROOF. The commands on the state vector (42_permutation.md) in mode `READY`: one equation per end of a command, and
the statements read off the equations. -/

namespace Sys2Proof.Machine

/-! ### The whole vector written -/

/-- Elements that hold values exist. -/
theorem State.VecIs.length_le {s : State} {u : List Nat} (h : s.VecIs u) : s.m ≤ s.sv.length := by
  by_contra hlt
  have hread := h.2 s.sv.length (by omega)
  simp [State.sAt] at hread

/-- Writing the content of `S[0 … M − 1]` back changes nothing. -/
theorem State.setVec_of_vecIs {s : State} {u : List Nat} (h : s.VecIs u) : s.setVec u = s := by
  have hsv : (s.setVec u).sv = s.sv := by
    have hlen := s.setVec_length (h.1.trans_le h.length_le)
    refine List.ext_getElem hlen fun j hj hj' => ?_
    have hat : (s.setVec u).sAt j = s.sAt j := by
      rw [State.setVec_sAt]
      split
      · next hlt => exact (h.2 j (h.1 ▸ hlt)).symm
      · rfl
    rwa [State.sAt, State.sAt, List.getD_eq_getElem _ _ hj, List.getD_eq_getElem _ _ hj'] at hat
  exact congrArg (fun l => { s with sv := l }) hsv

/-! ### Reads of the whole vector -/

section
variable {s : State} {u : List Nat}

theorem State.mapVec_of_vecIs (layer : List Nat → List Nat) (hu : s.VecIs u) :
    s.mapVec layer = some (s.setVec (layer u)) :=
  State.mapVec_eq_some.mpr ⟨u, hu, rfl⟩

theorem layer_of_vecIs (layer : List Nat → List Nat) (hu : s.VecIs u) :
    (orUninit (s.mapVec layer) fun s' => done s' 0) = .next ((s.setVec (layer u)).respond .ok 0) := by
  rw [State.mapVec_of_vecIs layer hu]
  rfl

/-! ### One equation per command -/

variable (hm : s.mode = .ready)
include hm

theorem exec_sget_of_lt (fd : Reg) {i v : Nat} (hi : i < s.m) (hv : s.sAt i = some v) :
    exec (.sget fd i) s = .next ((s.setReg fd v).respond .ok 0) := by
  rw [exec, execSget, inMode_of_ready hm, if_neg hi.not_ge, readElem_of_some hv, done]

theorem exec_sget_of_outside (fd : Reg) {i : Nat} (hi : s.m ≤ i) :
    exec (.sget fd i) s = .next (s.respond .index 0) := by
  rw [exec, execSget, inMode_of_ready hm, if_pos hi, fail_of_not_fatal s rfl]

theorem exec_sput_of_lt {fa : Reg} {i v : Nat} (hi : i < s.m) (hv : s.f[fa] = some v) :
    exec (.sput fa i) s = .next ((s.setElem i v).respond .ok 0) := by
  rw [exec, execSput, inMode_of_ready hm, if_neg hi.not_ge, readReg_of_some hv, done]

theorem exec_sput_of_outside (fa : Reg) {i : Nat} (hi : s.m ≤ i) :
    exec (.sput fa i) s = .next (s.respond .index 0) := by
  rw [exec, execSput, inMode_of_ready hm, if_pos hi, fail_of_not_fatal s rfl]

theorem exec_szero_of_ready : exec .szero s = .next ((s.setVec (List.replicate s.m 0)).respond .ok 0) := by
  rw [exec, execSzero, inMode_of_ready hm, done]

theorem exec_pinit_of_ready : exec .pinit s = .next ((s.setHrc 0).respond .ok 0) := by
  rw [exec, execPinit, inMode_of_ready hm, done]

theorem exec_sboxf_of_vecIs (hu : s.VecIs u) :
    exec .sboxf s = .next ((s.setVec (sbox s.params s.alpha u)).respond .ok 0) := by
  rw [exec, execSboxf, inMode_of_ready hm, layer_of_vecIs _ hu]

theorem exec_sboxi_of_vecIs (hu : s.VecIs u) :
    exec .sboxi s = .next ((s.setVec (sbox s.params s.ainv u)).respond .ok 0) := by
  rw [exec, execSboxi, inMode_of_ready hm, layer_of_vecIs _ hu]

/-- The S-box command of a half-round's parity uses that half-round's exponent (R99). -/
theorem exec_sbox_of_parity (h : Nat) (hu : s.VecIs u) :
    exec (if h % 2 = 0 then .sboxf else .sboxi) s =
      .next ((s.setVec (sbox s.params (s.params.exponent h) u)).respond .ok 0) := by
  unfold Params.exponent
  split
  · exact exec_sboxf_of_vecIs hm hu
  · exact exec_sboxi_of_vecIs hm hu

theorem exec_mdsmul_of_vecIs (hu : s.VecIs u) :
    exec .mdsmul s = .next ((s.setVec (mdsMul s.params u)).respond .ok 0) := by
  rw [exec, execMdsmul, inMode_of_ready hm, layer_of_vecIs _ hu]

theorem exec_arc_of_lt {k : Nat} (hu : s.VecIs u) (hk : k < 2 * s.n) :
    exec (.arc k) s = .next ((s.setVec (addRc s.params k u)).respond .ok 0) := by
  rw [exec, execArc, inMode_of_ready hm, if_neg hk.not_ge, layer_of_vecIs _ hu]

theorem exec_arc_of_outside {k : Nat} (hk : 2 * s.n ≤ k) : exec (.arc k) s = .next (s.respond .index 0) := by
  rw [exec, execArc, inMode_of_ready hm, if_pos hk, fail_of_not_fatal s rfl]

theorem exec_pstep_of_lt (hu : s.VecIs u) (hh : s.hrc < 2 * s.n) :
    exec .pstep s = .next (((s.setVec (halfRound s.params u s.hrc)).setHrc (s.hrc + 1)).respond .ok 0) := by
  rw [exec, execPstep, inMode_of_ready hm, if_neg hh.not_ge, State.mapVec_of_vecIs _ hu]
  rfl

theorem exec_pstep_of_complete (hh : 2 * s.n ≤ s.hrc) : exec .pstep s = .next (s.respond .seq 0) := by
  rw [exec, execPstep, inMode_of_ready hm, if_pos hh, fail_of_not_fatal s rfl]

theorem exec_perm_of_vecIs (hu : s.VecIs u) :
    exec .perm s = .next (((s.setVec (permute s.params u)).setHrc (2 * s.n)).respond .ok 0) := by
  rw [exec, execPerm, inMode_of_ready hm, State.permuted_eq_some.mpr ⟨u, hu, rfl⟩]
  rfl

end

/-! ### What a layer leaves -/

/-- `t` is a state left by writing the vector `v` into `s`: the mode and the parameters stay, and so do the elements of
`S` above the vector. -/
structure LeavesVec (s : State) (v : List Nat) (t : State) : Prop where
  mode_eq : t.mode = s.mode
  params_eq : t.params = s.params
  sv_eq : t.sv = (s.setVec v).sv

theorem LeavesVec.of_layer (s : State) (v : List Nat) : LeavesVec s v ((s.setVec v).respond .ok 0) := ⟨rfl, rfl, rfl⟩

theorem LeavesVec.of_pstep (s : State) (v : List Nat) (h : Nat) :
    LeavesVec s v (((s.setVec v).setHrc h).respond .ok 0) := ⟨rfl, rfl, rfl⟩

theorem LeavesVec.refl {s : State} {u : List Nat} (hu : s.VecIs u) : LeavesVec s u s :=
  ⟨rfl, rfl, congrArg State.sv (State.setVec_of_vecIs hu).symm⟩

section
variable {s t : State} {v : List Nat} (h : LeavesVec s v t)
include h

theorem LeavesVec.m_eq : t.m = s.m := congrArg Params.m h.params_eq

theorem LeavesVec.n_eq : t.n = s.n := congrArg Params.n h.params_eq

theorem LeavesVec.vecIs (hv : v.length = s.m) : t.VecIs v := by
  obtain ⟨-, hat⟩ := State.setVec_vecIs hv
  refine ⟨hv.trans h.m_eq.symm, fun j hj => ?_⟩
  rw [State.sAt, h.sv_eq]
  exact hat j (h.m_eq ▸ hj)

/-- Only the last of two vectors of one width shows. -/
theorem LeavesVec.trans {u : State} {w : List Nat} (h' : LeavesVec t w u) (hlen : v.length = w.length) :
    LeavesVec s w u where
  mode_eq := h'.mode_eq.trans h.mode_eq
  params_eq := h'.params_eq.trans h.params_eq
  sv_eq := by
    rw [h'.sv_eq, State.setVec_sv, h.sv_eq, State.setVec_sv, State.setVec_sv, hlen,
      List.drop_left' (by rw [List.length_map, hlen])]

end

/-! ### Single commands -/

/-- Settles O37. -/
theorem stateElementAccess : Obligations.StateElementAccess := by
  unfold Obligations.StateElementAccess
  intro s r i v hm
  exact ⟨exec_sget_of_lt hm r, exec_sput_of_lt hm,
    fun hi => ⟨exec_sget_of_outside hm r hi, exec_sput_of_outside hm r hi⟩⟩

/-- Settles O38: the decoder run on the two words, and the equations of the two commands. -/
theorem zeroAndRestart : Obligations.ZeroAndRestart := by
  unfold Obligations.ZeroAndRestart
  refine ⟨by decide, by decide, fun s hm => ⟨?_, exec_pinit_of_ready hm⟩⟩
  have hsv : (s.setVec (List.replicate s.m 0)).sv = List.replicate s.m (some 0) ++ s.sv.drop s.m := by
    rw [State.setVec_sv, List.map_replicate, List.length_replicate]
  rw [exec_szero_of_ready hm, ← hsv]
  rfl

/-- A layer's answer with the vector written out, for a layer that keeps the width. -/
theorem respond_setVec_of_eq_map {s : State} {t : List Nat} {α : Type} {l : List α} {g : α → Nat}
    (hlen : l.length = s.m) (ht : t = l.map g) :
    (s.setVec t).respond .ok 0 =
      { s with sv := (l.map fun x => some (g x)) ++ s.sv.drop s.m, responses := s.responses ++ [⟨.ok, 0⟩] } := by
  have hsv : (s.setVec t).sv = (l.map fun x => some (g x)) ++ s.sv.drop s.m := by
    rw [State.setVec_sv, ht, List.map_map, List.length_map, hlen]
    rfl
  rw [← hsv]
  rfl

/-- Settles O39. -/
theorem sboxesRaiseEveryElement : Obligations.SboxesRaiseEveryElement := by
  unfold Obligations.SboxesRaiseEveryElement
  intro s u hm hu
  refine ⟨(exec_sboxf_of_vecIs hm hu).trans ?_, (exec_sboxi_of_vecIs hm hu).trans ?_⟩
  · exact congrArg _ (respond_setVec_of_eq_map hu.1 (sbox_eq s.params s.alpha u))
  · exact congrArg _ (respond_setVec_of_eq_map hu.1 (sbox_eq s.params s.ainv u))

/-- Settles O41. -/
theorem mdsmulIsMatrixVectorProduct : Obligations.MdsmulIsMatrixVectorProduct := by
  unfold Obligations.MdsmulIsMatrixVectorProduct
  intro s u hm hu
  refine (exec_mdsmul_of_vecIs hm hu).trans ?_
  exact congrArg _ (respond_setVec_of_eq_map List.length_range (mdsMul_eq s.params u))

/-- Settles O42. -/
theorem arcAddsConstantVector : Obligations.ArcAddsConstantVector := by
  unfold Obligations.ArcAddsConstantVector
  intro s u k hm
  refine ⟨fun hu hk => (exec_arc_of_lt hm hu hk).trans ?_, exec_arc_of_outside hm⟩
  exact congrArg _ (respond_setVec_of_eq_map List.length_range (addRc_eq s.params k hu.1))

/-- Settles O43: the vector of the half-round as R99 writes it, in the state whose counter has advanced. -/
theorem pstepIsOneHalfRound : Obligations.PstepIsOneHalfRound := by
  unfold Obligations.PstepIsOneHalfRound
  intro s u e hm
  refine ⟨fun hu hh he => (exec_pstep_of_lt hm hu hh).trans ?_, exec_pstep_of_complete hm⟩
  subst he
  exact congrArg (fun t : State => Host.Outcome.next (t.setHrc (s.hrc + 1)))
    (respond_setVec_of_eq_map List.length_range (halfRound_eq s.params s.hrc hu.1))

/-- Settles O40: the second S-box writes back the vector that the first one read. -/
theorem inverseSboxUndoesForward : Obligations.InverseSboxUndoesForward := by
  unfold Obligations.InverseSboxUndoesForward
  intro s u hm hu hlt hp ha hi hexp
  have hlen : (sbox s.params s.alpha u).length = s.m := (sbox_length _ _ u).trans hu.1
  obtain ⟨t, hforward, ht⟩ : ∃ t, exec .sboxf s = .next t ∧ LeavesVec s (sbox s.params s.alpha u) t :=
    ⟨_, exec_sboxf_of_vecIs hm hu, .of_layer s _⟩
  have hundo : sbox t.params t.ainv (sbox s.params s.alpha u) = u := by
    rw [show t.ainv = s.params.ainv from congrArg Params.ainv ht.params_eq, ht.params_eq]
    exact sbox_sbox_of_inverse (ps := s.params) hp hlt ha hi hexp
  have hback := exec_sboxi_of_vecIs (ht.mode_eq.trans hm) (ht.vecIs hlen)
  rw [hundo] at hback
  have hend := ht.trans (.of_layer t u) (hlen.trans hu.1.symm)
  exact ⟨_, runInstrs_pair hforward hback, hend.sv_eq.trans (congrArg State.sv (State.setVec_of_vecIs hu))⟩

end Sys2Proof.Machine
end

section
/-! PROOF. The round controller by its steps (R112): a run of `PSTEP`s is a run of half-rounds, and a half-round is its
three layers. -/

namespace Sys2Proof.Machine

theorem runInstrs_cons {i : Instr} {rest : List Instr} {s t : State} (h : exec i s = .next t) :
    runInstrs (i :: rest) s = runInstrs rest t := by
  rw [runInstrs, h]

/-- `k` `PSTEP`s apply the half-rounds `HRC, …, HRC + k − 1` in order, as long as the permutation is not complete. -/
theorem runInstrs_psteps {s : State} {u : List Nat} (k : Nat) (hm : s.mode = .ready) (hu : s.VecIs u)
    (hk : s.hrc + k ≤ 2 * s.n) :
    ∃ t, runInstrs (List.replicate k .pstep) s = .next t ∧ t.hrc = s.hrc + k ∧
      LeavesVec s ((List.range' s.hrc k).foldl (halfRound s.params) u) t := by
  induction k generalizing s u with
  | zero => exact ⟨s, rfl, rfl, .refl hu⟩
  | succ k ih =>
    have hlen := halfRound_length s.params u s.hrc
    obtain ⟨s', hstep, hadv, hs'⟩ : ∃ t, exec .pstep s = .next t ∧ t.hrc = s.hrc + 1 ∧
        LeavesVec s (halfRound s.params u s.hrc) t :=
      ⟨_, exec_pstep_of_lt hm hu (by omega), rfl, .of_pstep s _ _⟩
    obtain ⟨t, hrun, hhrc, ht⟩ := ih (hs'.mode_eq.trans hm) (hs'.vecIs hlen) (by rw [hadv, hs'.n_eq]; omega)
    rw [hs'.params_eq, hadv] at ht
    have hwidth := foldl_halfRound_length (List.range' (s.hrc + 1) k) hlen
    refine ⟨t, (runInstrs_cons hstep).trans hrun, by omega, ?_⟩
    rw [List.range'_succ, List.foldl_cons]
    exact hs'.trans ht (hlen.trans hwidth.symm)

/-- The layers of half-round `h`, each as its own command, leave the half-round (R112). -/
theorem runInstrs_layers {s : State} {u : List Nat} {h : Nat} (hm : s.mode = .ready) (hu : s.VecIs u)
    (hh : h < 2 * s.n) :
    ∃ t, runInstrs [if h % 2 = 0 then .sboxf else .sboxi, .mdsmul, .arc h] s = .next t ∧
      LeavesVec s (halfRound s.params u h) t := by
  obtain ⟨s₁, hsbox, h₁⟩ : ∃ t, exec (if h % 2 = 0 then .sboxf else .sboxi) s = .next t ∧
      LeavesVec s (sbox s.params (s.params.exponent h) u) t :=
    ⟨_, exec_sbox_of_parity hm h hu, .of_layer s _⟩
  have hlen₁ : (sbox s.params (s.params.exponent h) u).length = s.m := (sbox_length _ _ u).trans hu.1
  have hm₁ := h₁.mode_eq.trans hm
  obtain ⟨s₂, hmds, h₂⟩ : ∃ t, exec .mdsmul s₁ = .next t ∧
      LeavesVec s₁ (mdsMul s₁.params (sbox s.params (s.params.exponent h) u)) t :=
    ⟨_, exec_mdsmul_of_vecIs hm₁ (h₁.vecIs hlen₁), .of_layer s₁ _⟩
  rw [h₁.params_eq] at h₂
  have hlen₂ := mdsMul_length s.params (sbox s.params (s.params.exponent h) u)
  have hs₂ := h₁.trans h₂ (hlen₁.trans hlen₂.symm)
  have harc := exec_arc_of_lt (hs₂.mode_eq.trans hm) (hs₂.vecIs hlen₂) (hs₂.n_eq ▸ hh)
  rw [hs₂.params_eq] at harc
  exact ⟨_, (runInstrs_cons hsbox).trans (runInstrs_pair hmds harc),
    hs₂.trans (.of_layer s₂ (halfRound s.params u h)) (hlen₂.trans (halfRound_length s.params u h).symm)⟩

/-- Settles O44: `PINIT` starts the run of half-rounds at 0, and `PSTEP` has the half-round of its three layers. -/
theorem permIsPinitAndPsteps : Obligations.PermIsPinitAndPsteps := by
  unfold Obligations.PermIsPinitAndPsteps
  intro s u hm hu
  refine ⟨?_, fun hh => ?_⟩
  · obtain ⟨t, hrun, hhrc, ht⟩ := runInstrs_psteps (s := (s.setHrc 0).respond .ok 0) (2 * s.n) hm hu
      (show 0 + 2 * s.n ≤ 2 * s.n by omega)
    have hend : t.hrc = 2 * s.n := hhrc.trans (Nat.zero_add _)
    have hperm : t.sv = (s.setVec (permute s.params u)).sv := by
      rw [permute, List.range_eq_range']
      exact ht.sv_eq
    refine ⟨t, (runInstrs_cons (exec_pinit_of_ready hm)).trans hrun, hend, ?_⟩
    rw [exec_perm_of_vecIs hm hu, hend, hperm]
    rfl
  · obtain ⟨t, hrun, ht⟩ := runInstrs_layers hm hu hh
    refine ⟨t, hrun, ?_⟩
    rw [exec_pstep_of_lt hm hu hh, ht.sv_eq]
    rfl

end Sys2Proof.Machine
end

section
/-! PROOF. The commands of the sponge (43_sponge_hash.md) in mode `READY`: what an absorption and the padding leave, one
equation per end of a command, and the statements about single commands. -/

namespace Sys2Proof.Machine

section
variable {s : State} {u : List Nat}

/-! ### The permutation, the absorption and the padding of a vector that holds values (R100, R117, R120) -/

/-- The reading of the vector depends on `S` and `M` alone. -/
theorem State.VecIs.of_eq {t : State} (hu : s.VecIs u) (hsv : t.sv = s.sv) (hwidth : t.m = s.m) : t.VecIs u := by
  obtain ⟨hlen, hat⟩ := hu
  refine ⟨hlen.trans hwidth.symm, fun j hj => ?_⟩
  rw [State.sAt, hsv]
  exact hat j (hwidth ▸ hj)

theorem State.permuted_of_vecIs (hu : s.VecIs u) :
    s.permuted = some ((s.setVec (permute s.params u)).setHrc (2 * s.n)) :=
  State.permuted_eq_some.mpr ⟨u, hu, rfl⟩

theorem State.setElem_vecIs {k : Nat} (v : Nat) (hu : s.VecIs u) (hk : k < s.m) :
    (s.setElem k v).VecIs (u.set k v) := by
  obtain ⟨hlen, hat⟩ := hu
  refine ⟨by rw [List.length_set, hlen, State.setElem_m], fun j hj => ?_⟩
  have hexists : k < s.sv.length := hk.trans_le (State.VecIs.length_le ⟨hlen, hat⟩)
  rw [State.setElem_sAt, List.getD_eq_getElem?_getD, List.getElem?_set]
  by_cases hjk : j = k
  · simp [hjk, hexists, hlen, hk]
  · rw [if_neg fun h => hjk h.1, if_neg (Ne.symm hjk), hat j hj, List.getD_eq_getElem?_getD]

/-- An element does not show once the vector that it belongs to is written whole. -/
theorem State.setElem_setVec {k : Nat} {w : List Nat} (v : Nat) (hk : k < w.length) :
    ((s.setElem k v).setVec w).sv = (s.setVec w).sv := by
  rw [State.setVec_sv, State.setElem_sv, List.drop_set_of_lt hk, State.setVec_sv]

theorem State.absorb_of_vecIs (v : Nat) (hu : s.VecIs u) (hk : s.abspos < s.m) (hr : s.abspos + 1 ≠ s.rate) :
    s.absorb v = some { s with
      sv := (s.setElem s.abspos (add s.p (u.getD s.abspos 0) v)).sv, hany := true, abspos := s.abspos + 1 } :=
  State.absorb_eq_some.mpr ⟨_, hu.2 _ hk, .inl ⟨hr, rfl⟩⟩

theorem State.absorb_of_blockEnd (v : Nat) (hu : s.VecIs u) (hk : s.abspos < s.m) (hr : s.abspos + 1 = s.rate) :
    s.absorb v = some { s with
      sv := (s.setVec (permute s.params (u.set s.abspos (add s.p (u.getD s.abspos 0) v)))).sv
      hrc := 2 * s.n, hany := true, abspos := 0 } := by
  have hadded : ((s.setElem s.abspos (add s.p (u.getD s.abspos 0) v)).setHany true).VecIs _ :=
    State.setElem_vecIs _ hu hk
  have hwidth := permute_length (ps := s.params) hadded.1
  refine State.absorb_eq_some.mpr ⟨_, hu.2 _ hk, .inr ⟨hr, _, State.permuted_of_vecIs hadded, ?_⟩⟩
  rw [State.setHany_params, State.setElem_params,
    ← State.setElem_setVec (add s.p (u.getD s.abspos 0) v) (hk.trans_eq hwidth.symm)]
  simp only [State.setAbspos, State.setHrc, State.setVec, State.setHany, State.setElem]

theorem State.padded_of_blockStart (hp : s.abspos = 0) : s.padded = some s :=
  State.padded_eq_some.mpr (.inl ⟨hp, rfl⟩)

theorem State.padded_of_vecIs (hu : s.VecIs u) (hp : s.abspos ≠ 0) :
    s.padded = some { s with sv := (s.setVec (permute s.params u)).sv, hrc := 2 * s.n, abspos := 0 } :=
  State.padded_eq_some.mpr (.inr ⟨hp, _, State.permuted_of_vecIs hu, rfl⟩)

/-! ### One equation per end of a command -/

variable (hm : s.mode = .ready)
include hm

theorem exec_perm_leaves (hu : s.VecIs u) : ∃ x, exec .perm s = .next x ∧ LeavesVec s (permute s.params u) x :=
  ⟨_, exec_perm_of_vecIs hm hu, .of_pstep s _ _⟩

theorem exec_hinit_of_ready :
    exec .hinit s = .next { s with sv := (s.setVec (List.replicate s.m 0)).sv, abspos := 0, hany := false,
                                   hopen := true, dvalid := false, responses := s.responses ++ [⟨.ok, 0⟩] } := by
  rw [exec, execHinit, inMode_of_ready hm, done]
  simp only [State.respond, State.setDvalid, State.setHopen, State.setHany, State.setAbspos, State.setVec]

theorem exec_habs_of_closed (ho : s.hopen = false) : exec .habs s = .next (s.respond .seq 0) := by
  rw [exec, execHabs, inMode_of_ready hm, if_pos ho, fail_of_not_fatal s rfl]

theorem exec_habs_of_absorb {s' : State} (ho : s.hopen = true) (h : s.absorb (fe s.p s.udin) = some s') :
    exec .habs s = .next (s'.respond .ok 0) := by
  rw [exec, execHabs, inMode_of_ready hm, if_neg (by simp [ho]), h]
  rfl

theorem exec_habsr_of_closed (fa : Reg) (ho : s.hopen = false) :
    exec (.habsr fa) s = .next (s.respond .seq 0) := by
  rw [exec, execHabsr, inMode_of_ready hm, if_pos ho, fail_of_not_fatal s rfl]

theorem exec_habsr_of_absorb {fa : Reg} {v : Nat} {s' : State} (ho : s.hopen = true) (hv : s.f[fa] = some v)
    (h : s.absorb v = some s') : exec (.habsr fa) s = .next (s'.respond .ok 0) := by
  rw [exec, execHabsr, inMode_of_ready hm, if_neg (by simp [ho]), readReg_of_some hv, h]
  rfl

theorem exec_hfin_of_closed (ho : s.hopen = false) : exec .hfin s = .next (s.respond .seq 0) := by
  rw [exec, execHfin, inMode_of_ready hm, if_pos ho, fail_of_not_fatal s rfl]

theorem exec_hfin_of_empty (ho : s.hopen = true) (ha : s.hany = false) :
    exec .hfin s = .next (s.respond .input 0) := by
  rw [exec, execHfin, inMode_of_ready hm, if_neg (by simp [ho]), if_pos ha, fail_of_not_fatal s rfl]

/-- `HFIN` latches the first four elements of the padded state, whose vector is `w`. -/
theorem exec_hfin_of_padded {s' : State} {w : List Nat} (ho : s.hopen = true) (ha : s.hany = true)
    (hpad : s.padded = some s') (hw : s'.VecIs w) (hfour : 4 ≤ s'.m) :
    exec .hfin s = .next { s' with dg := #v[w.getD 0 0, w.getD 1 0, w.getD 2 0, w.getD 3 0], dvalid := true,
                                   hopen := false, responses := s'.responses ++ [⟨.ok, 0⟩] } := by
  obtain ⟨-, hat⟩ := hw
  rw [exec, execHfin, inMode_of_ready hm, if_neg (by simp [ho]), if_neg (by simp [ha]), hpad, orUninit_some,
    readElem_of_some (hat 0 (by omega)), readElem_of_some (hat 1 (by omega)), readElem_of_some (hat 2 (by omega)),
    readElem_of_some (hat 3 (by omega)), done]
  simp only [State.respond, State.setHopen, State.setDvalid, State.setDigest]

theorem exec_hsqz_of_invalid (i : Nat) (hd : s.dvalid = false) : exec (.hsqz i) s = .next (s.respond .seq 0) := by
  rw [exec, execHsqz, inMode_of_ready hm, if_pos hd, fail_of_not_fatal s rfl]

theorem exec_hsqz_of_outside {i : Nat} (hd : s.dvalid = true) (hi : 4 ≤ i) :
    exec (.hsqz i) s = .next (s.respond .index 0) := by
  rw [exec, execHsqz, inMode_of_ready hm, if_neg (by simp [hd]), if_pos (show 3 < i from hi),
    fail_of_not_fatal s rfl]

theorem exec_hsqz_of_lt {i : Nat} (hd : s.dvalid = true) (hi : i < 4) :
    exec (.hsqz i) s = .next (s.respond .ok (s.dgAt i)) := by
  rw [exec, execHsqz, inMode_of_ready hm, if_neg (by simp [hd]), if_neg (by omega), done]

end

/-! ### The two absorbing commands (R118, R119) -/

/-- A command whose rule is `absorb(v)` adds `v` at `ABSPOS`; at the end of a block the vector it leaves is the one that
`PERM` leaves after the addition (R117). -/
theorem exec_of_absorb {i : Instr} {s s₁ : State} {u : List Nat} {v : Nat} (hm : s.mode = .ready) (hu : s.VecIs u)
    (hk : s.abspos < s.m) (hs₁ : s₁ = s.setElem s.abspos (add s.p (u.getD s.abspos 0) v))
    (hi : ∀ s', s.absorb v = some s' → exec i s = .next (s'.respond .ok 0)) :
    (s.abspos + 1 ≠ s.rate → exec i s = .next { s₁ with
      hany := true, abspos := s.abspos + 1, responses := s.responses ++ [⟨.ok, 0⟩] }) ∧
    (s.abspos + 1 = s.rate → ∃ x, exec .perm s₁ = .next x ∧ exec i s = .next { s₁ with
      sv := x.sv, hrc := 2 * s.n, hany := true, abspos := 0, responses := s.responses ++ [⟨.ok, 0⟩] }) := by
  subst hs₁
  refine ⟨fun hr => ?_, fun hr => ?_⟩
  · rw [hi _ (State.absorb_of_vecIs v hu hk hr)]
    rfl
  · have hadded := State.setElem_vecIs (add s.p (u.getD s.abspos 0) v) hu hk
    obtain ⟨x, hperm, hx⟩ := exec_perm_leaves (s := s.setElem _ _) hm hadded
    refine ⟨x, hperm, ?_⟩
    have hwidth := permute_length (ps := s.params) hadded.1
    rw [hx.sv_eq, State.setElem_params, State.setElem_setVec _ (hk.trans_eq hwidth.symm),
      hi _ (State.absorb_of_blockEnd v hu hk hr)]
    rfl

/-! ### Single commands -/

/-- Settles O45. -/
theorem hinitOpensCall : Obligations.HinitOpensCall := by
  unfold Obligations.HinitOpensCall
  refine ⟨by decide, fun s hm => ?_⟩
  have hsv : (s.setVec (List.replicate s.m 0)).sv = List.replicate s.m (some 0) ++ s.sv.drop s.m := by
    rw [State.setVec_sv, List.map_replicate, List.length_replicate]
  rw [exec_hinit_of_ready hm, hsv]

/-- Settles O46: `HABS` absorbs its reduced data word. -/
theorem habsAbsorbsInteger : Obligations.HabsAbsorbsInteger := by
  unfold Obligations.HabsAbsorbsInteger
  refine ⟨by decide, fun s s₁ u hm => ⟨fun ho hu hk hs₁ => ?_, exec_habs_of_closed hm⟩⟩
  rw [← State.udin_eq, ← fe_natCast] at hs₁
  exact exec_of_absorb hm hu hk hs₁ fun _ => exec_habs_of_absorb hm ho

/-- Settles O47: `HABSR` absorbs the value of its register. -/
theorem habsrAbsorbsRegister : Obligations.HabsrAbsorbsRegister := by
  unfold Obligations.HabsrAbsorbsRegister
  intro s s₁ u fa v hm
  refine ⟨fun ho hu hk hv hs₁ => ?_, exec_habsr_of_closed hm fa⟩
  exact exec_of_absorb hm hu hk hs₁ fun _ => exec_habsr_of_absorb hm ho hv

/-- Settles O48: the padded state is the state itself at the start of a block, and else what `PERM` leaves. -/
theorem hfinLatchesDigest : Obligations.HfinLatchesDigest := by
  unfold Obligations.HfinLatchesDigest
  refine ⟨by decide, fun s u hm =>
    ⟨fun ho ha hu hfour => ⟨fun hp => ?_, fun hp => ?_⟩, exec_hfin_of_closed hm, exec_hfin_of_empty hm⟩⟩
  · exact exec_hfin_of_padded hm ho ha (State.padded_of_blockStart hp) hu hfour
  · have hlen := permute_length (ps := s.params) hu.1
    obtain ⟨x, hperm, hx⟩ := exec_perm_leaves hm hu
    refine ⟨x, permute s.params u, hperm, hx.vecIs hlen, ?_⟩
    rw [hx.sv_eq, exec_hfin_of_padded hm ho ha (State.padded_of_vecIs hu hp) ((State.setVec_vecIs hlen).of_eq rfl rfl)
      hfour]

theorem decode_hsqz_word {i : Nat} (hi : i < 65536) : decode (BitVec.ofNat 32 (0x43000000 + i)) = .ok (.hsqz i) :=
  decodeEncodeRoundTrip (.hsqz i) (decide_eq_true hi)

/-- Settles O49. -/
theorem hsqzReadsDigest : Obligations.HsqzReadsDigest := by
  unfold Obligations.HsqzReadsDigest
  refine ⟨fun i => decode_hsqz_word, fun s i hm =>
    ⟨exec_hsqz_of_invalid hm i, exec_hsqz_of_outside hm, fun hd hi => ?_⟩⟩
  rw [exec_hsqz_of_lt hm hd hi, State.dgAt_eq hi]
  rfl

end Sys2Proof.Machine
end

section
/-! PROOF. The hash as a function (R113), one element at a time: the vector inside a block, what one more element
does to it, and the digest at the end of the input. -/

namespace Sys2Proof.Machine

/-- The vector after the first `q` blocks of `xs`, each absorbed and permuted (R113, step 3). -/
def absorbBlocks (ps : Params) (xs : List Nat) (q : Nat) : List Nat :=
  (List.range q).foldl (fun t blk => permute ps (absorbBlock ps xs t blk)) (List.replicate ps.m 0)

/-- The vector inside block `q`, before its permutation, when the input so far is `xs`. -/
def absorbed (ps : Params) (xs : List Nat) (q : Nat) : List Nat := absorbBlock ps xs (absorbBlocks ps xs q) q

/-- The element that block `q` of `xs` adds at position `j`: zero where the input has ended. -/
def blockElem (ps : Params) (xs : List Nat) (q j : Nat) : Nat :=
  if q * ps.rate + j < xs.length then fe ps.p (xs.getD (q * ps.rate + j) 0) else 0

section
variable {ps : Params} {xs t : List Nat} {q : Nat}

theorem absorbBlocks_succ (ps : Params) (xs : List Nat) (q : Nat) :
    absorbBlocks ps xs (q + 1) = permute ps (absorbed ps xs q) := by
  rw [absorbBlocks, List.range_succ, List.foldl_append]
  rfl

/-! ### Widths and ranges -/

@[simp] theorem absorbBlock_length (ps : Params) (xs t : List Nat) (q : Nat) :
    (absorbBlock ps xs t q).length = t.length := by
  simp [absorbBlock]

@[simp] theorem absorbBlocks_length (ps : Params) (xs : List Nat) (q : Nat) : (absorbBlocks ps xs q).length = ps.m := by
  induction q with
  | zero => simp [absorbBlocks]
  | succ q ih => rw [absorbBlocks_succ, permute_length (by rw [absorbed, absorbBlock_length, ih])]

@[simp] theorem absorbed_length (ps : Params) (xs : List Nat) (q : Nat) : (absorbed ps xs q).length = ps.m := by
  simp [absorbed]

theorem absorbBlock_getElem {j : Nat} (hj : j < (absorbBlock ps xs t q).length) :
    (absorbBlock ps xs t q)[j] =
      if j < ps.rate then add ps.p (t[j]'(by simpa using hj)) (blockElem ps xs q j)
      else t[j]'(by simpa using hj) :=
  List.getElem_mapIdx

theorem absorbBlock_lt (hp : 0 < ps.p) (ht : ∀ x ∈ t, x < ps.p) : ∀ x ∈ absorbBlock ps xs t q, x < ps.p := by
  intro x hx
  obtain ⟨j, hj, rfl⟩ := List.mem_iff_getElem.mp hx
  rw [absorbBlock_getElem]
  split
  · exact add_lt hp _ _
  · exact ht _ (List.getElem_mem _)

theorem absorbBlocks_lt (hp : 0 < ps.p) : ∀ x ∈ absorbBlocks ps xs q, x < ps.p := by
  induction q with
  | zero => simp [absorbBlocks, hp]
  | succ q ih =>
    rw [absorbBlocks_succ]
    exact permute_lt hp (absorbBlock_lt hp ih)

/-! ### One more element -/

theorem blockElem_append {j : Nat} (ys : List Nat) (h : q * ps.rate + j < xs.length) :
    blockElem ps (xs ++ ys) q j = blockElem ps xs q j := by
  rw [blockElem, blockElem, if_pos h, if_pos (by rw [List.length_append]; omega), List.getD_append _ _ _ _ h]

theorem blockElem_of_le {j : Nat} (h : xs.length ≤ q * ps.rate + j) : blockElem ps xs q j = 0 := if_neg h.not_gt

theorem blockElem_concat {k : Nat} (x : Nat) (hlen : xs.length = q * ps.rate + k) :
    blockElem ps (xs ++ [x]) q k = fe ps.p x := by
  rw [blockElem, ← hlen, if_pos (by simp)]
  simp

/-- Another position sees no difference. -/
theorem blockElem_concat_of_ne {j k : Nat} (x : Nat) (hlen : xs.length = q * ps.rate + k) (hjk : k ≠ j) :
    blockElem ps (xs ++ [x]) q j = blockElem ps xs q j := by
  obtain hlt | hge := Nat.lt_or_ge j k
  · exact blockElem_append [x] (by omega)
  · have hend : (xs ++ [x]).length ≤ q * ps.rate + j := by rw [List.length_append, List.length_singleton]; omega
    rw [blockElem_of_le hend, blockElem_of_le (xs := xs) (by omega)]

/-- A block that the input fills does not see what comes after it. -/
theorem absorbBlock_append (ys : List Nat) (h : (q + 1) * ps.rate ≤ xs.length) :
    absorbBlock ps (xs ++ ys) t q = absorbBlock ps xs t q := by
  refine List.ext_getElem (by simp) fun j _ _ => ?_
  rw [absorbBlock_getElem, absorbBlock_getElem]
  split
  · rw [Nat.succ_mul] at h
    rw [blockElem_append ys (by omega)]
  · rfl

theorem absorbBlocks_append (ys : List Nat) (h : q * ps.rate ≤ xs.length) :
    absorbBlocks ps (xs ++ ys) q = absorbBlocks ps xs q := by
  induction q with
  | zero => rfl
  | succ q ih =>
    have hprev : q * ps.rate ≤ xs.length := (Nat.mul_le_mul_right _ q.le_succ).trans h
    rw [absorbBlocks_succ, absorbBlocks_succ, absorbed, absorbed, absorbBlock_append ys h, ih hprev]

theorem add_add_zero (p a v : Nat) : add p (add p a 0) v = add p a v := by
  simp [add]

/-- Absorbing one more element at position `k` of an incomplete block adds it there (R117). -/
theorem absorbBlock_concat {k : Nat} (x : Nat) (hlen : xs.length = q * ps.rate + k) (hk : k < ps.rate) :
    absorbBlock ps (xs ++ [x]) t q =
      (absorbBlock ps xs t q).set k (add ps.p ((absorbBlock ps xs t q).getD k 0) (fe ps.p x)) := by
  refine List.ext_getElem (by simp) fun j hj _ => ?_
  have hjt : j < (absorbBlock ps xs t q).length := by simpa using hj
  rw [List.getElem_set]
  split
  · next hkj =>
    subst hkj
    rw [List.getD_eq_getElem _ _ hjt, absorbBlock_getElem, absorbBlock_getElem, if_pos hk, if_pos hk,
      blockElem_concat x hlen, blockElem_of_le hlen.le, add_add_zero]
  · next hkj => rw [absorbBlock_getElem, absorbBlock_getElem, blockElem_concat_of_ne x hlen hkj]

theorem absorbed_concat {k : Nat} (x : Nat) (hlen : xs.length = q * ps.rate + k) (hk : k < ps.rate) :
    absorbed ps (xs ++ [x]) q =
      (absorbed ps xs q).set k (add ps.p ((absorbed ps xs q).getD k 0) (fe ps.p x)) := by
  rw [absorbed, absorbed, absorbBlocks_append [x] (by omega), absorbBlock_concat x hlen hk]

/-- A block that has not begun adds nothing. -/
theorem absorbed_of_blockStart (hp : 0 < ps.p) (hlen : xs.length = q * ps.rate) :
    absorbed ps xs q = absorbBlocks ps xs q := by
  refine List.ext_getElem (by simp) fun j _ hj => ?_
  have hlt : (absorbBlocks ps xs q)[j] < ps.p := absorbBlocks_lt hp _ (List.getElem_mem hj)
  simp only [absorbed, absorbBlock_getElem]
  rw [blockElem_of_le (by omega), add, Nat.add_zero, Nat.mod_eq_of_lt hlt, ite_self]

/-- The element that fills block `q` brings the permutation of the block, and the next block has not begun. -/
theorem absorbed_concat_of_blockEnd {k : Nat} (x : Nat) (hp : 0 < ps.p) (hlen : xs.length = q * ps.rate + k)
    (hk : k + 1 = ps.rate) : absorbed ps (xs ++ [x]) (q + 1) = permute ps (absorbed ps (xs ++ [x]) q) := by
  have hfull : (xs ++ [x]).length = (q + 1) * ps.rate := by
    rw [List.length_append, List.length_singleton, hlen, Nat.succ_mul, ← hk, Nat.add_assoc]
  rw [absorbed_of_blockStart hp hfull, absorbBlocks_succ]

/-! ### The digest -/

/-- An input of whole blocks needs no padding. -/
theorem rescueHash_of_blockStart (hp : 0 < ps.p) (hr : 0 < ps.rate) (hlen : xs.length = q * ps.rate) :
    rescueHash ps xs = (absorbed ps xs q).take 4 := by
  have hblocks : (xs.length + ps.rate - 1) / ps.rate = q :=
    Nat.div_eq_of_lt_le (by omega) (by rw [Nat.succ_mul]; omega)
  rw [absorbed_of_blockStart hp hlen, ← hblocks]
  rfl

/-- The incomplete last block counts as one block, padded with zeros (R113, R120). -/
theorem rescueHash_of_partial {k : Nat} (hlen : xs.length = q * ps.rate + k) (h0 : k ≠ 0) (hk : k < ps.rate) :
    rescueHash ps xs = (permute ps (absorbed ps xs q)).take 4 := by
  have hblocks : (xs.length + ps.rate - 1) / ps.rate = q + 1 :=
    Nat.div_eq_of_lt_le (by rw [Nat.succ_mul]; omega) (by rw [Nat.succ_mul, Nat.succ_mul]; omega)
  rw [← absorbBlocks_succ, ← hblocks]
  rfl

end

end Sys2Proof.Machine
end

section
/-! PROOF. A hash call as a run (R114): the commands of the sponge carry the vector of R113 from one element to the
next, and the digest out. -/

namespace Sys2Proof.Machine

/-! ### Runs in pieces -/

theorem run_succ {M : Host.Core} {k : Nat} {s t : M.State} (h : M.step s = .next t) : M.run (k + 1) s = M.run k t := by
  rw [Host.Core.run, h]

/-- A run goes on from where its first `k` steps end. -/
theorem run_append {M : Host.Core} {k l : Nat} {s t : M.State} (h : M.run k s = .next t) :
    M.run (k + l) s = M.run l t := by
  induction k generalizing s with
  | zero =>
    cases h
    rw [Nat.zero_add]
  | succ k ih =>
    rw [Nat.succ_add]
    cases hs : M.step s with
    | next u =>
      rw [run_succ hs] at h ⊢
      exact ih h
    | fault | refused =>
      rw [Host.Core.run, hs] at h
      cases h

/-- A command word taken from the channel runs its command. -/
theorem step_of_decode {s : State} {cmd : CmdWord} {i : Instr} {din : Nat} {rest : List HostInput}
    (hin : s.inputs = .command cmd din :: rest) (hdec : decode cmd = .ok i) : step s = exec i (s.present din rest) := by
  rw [step_of_command hin, runWord_of_decode_ok _ hdec]

/-! ### An open call -/

/-- What the sponge needs of its parameters; the checks of R90 give it. -/
structure SpongeParams (ps : Params) : Prop where
  modulus_pos : 0 < ps.p
  digest_le : 4 ≤ ps.m
  rate_pos : 0 < ps.rate
  rate_le : ps.rate ≤ ps.m

theorem State.spongeParams {s : State} (h : s.paramsOk = true) : SpongeParams s.params := by
  obtain ⟨hp, hm, -, -, -, hpos, hle, -⟩ := State.paramsOk_iff.mp h
  exact ⟨Nat.lt_of_lt_of_le Nat.two_pos hp, hm, hpos, hle⟩

/-- `t` is inside the hash call that `s` began, with the elements `ys` absorbed and every command answered `OK`. -/
structure Absorbing (s : State) (ys : List Nat) (t : State) : Prop where
  mode_eq : t.mode = .ready
  params_eq : t.params = s.params
  build_eq : t.build = s.build
  hopen_eq : t.hopen = true
  hany_eq : ys ≠ [] → t.hany = true
  fit : SpongeParams t.params
  /-- The call is at position `ABSPOS` of a block `q`, and the vector is the one of R113 there. -/
  block : ∃ q, ys.length = q * t.rate + t.abspos ∧ t.abspos < t.rate ∧ t.VecIs (absorbed t.params ys q)
  responses_eq : t.responses = s.responses ++ List.replicate (ys.length + 1) ⟨.ok, 0⟩

section
variable {s t : State} {ys : List Nat}

theorem Absorbing.present (h : Absorbing s ys t) (din : Nat) (rest : List HostInput) :
    Absorbing s ys (t.present din rest) :=
  { h with }

/-- `HINIT` opens the call over the zero vector (R116). -/
theorem step_hinit {rest : List HostInput} (hfit : SpongeParams s.params) (hm : s.mode = .ready)
    (hin : s.inputs = .command 0x40000000 0 :: rest) : ∃ t, step s = .next t ∧ t.inputs = rest ∧ Absorbing s [] t := by
  have hzero : absorbed s.params [] 0 = List.replicate s.m 0 :=
    absorbed_of_blockStart hfit.modulus_pos (Nat.zero_mul _).symm
  have hvec := State.setVec_vecIs (s := s) (List.length_replicate (n := s.m) (a := 0))
  refine ⟨_, (step_of_decode hin (by decide)).trans (exec_hinit_of_ready (s := s.present 0 rest) hm), rfl, ?_⟩
  exact
    { mode_eq := hm, params_eq := rfl, build_eq := rfl, hopen_eq := rfl, hany_eq := fun h => absurd rfl h, fit := hfit
      block := ⟨0, (Nat.zero_mul _).symm, hfit.rate_pos, hzero ▸ hvec.of_eq rfl rfl⟩, responses_eq := rfl }

/-- One more `OK` answer for one more element. -/
theorem Absorbing.responses_concat (h : Absorbing s ys t) (x : Nat) :
    t.responses ++ [⟨.ok, 0⟩] = s.responses ++ List.replicate ((ys ++ [x]).length + 1) ⟨.ok, 0⟩ := by
  rw [h.responses_eq, List.append_assoc, ← List.replicate_succ', List.length_append, List.length_singleton]

/-- `HABS` absorbs the next element: the block goes on, or it is full and is permuted (R117, R118). -/
theorem Absorbing.habs (h : Absorbing s ys t) (hx : t.din < 2 ^ t.build.dataBits) :
    ∃ t', exec .habs t = .next t' ∧ t'.inputs = t.inputs ∧ Absorbing s (ys ++ [t.din]) t' := by
  obtain ⟨q, hlen, hpos, hvec⟩ := h.block
  have hk : t.abspos < t.m := hpos.trans_le h.fit.rate_le
  have hudin : t.udin = t.din := by rw [State.udin_eq, Nat.mod_eq_of_lt hx]
  have hnext : absorbed t.params (ys ++ [t.din]) q = (absorbed t.params ys q).set t.abspos
      (add t.p ((absorbed t.params ys q).getD t.abspos 0) (fe t.p t.udin)) :=
    hudin ▸ absorbed_concat (ps := t.params) t.din hlen hpos
  by_cases hr : t.abspos + 1 = t.rate
  · have habsorb := State.absorb_of_blockEnd (fe t.p t.udin) hvec hk hr
    have hfull : (ys ++ [t.din]).length = (q + 1) * t.rate := by
      rw [List.length_append, List.length_singleton, hlen, Nat.succ_mul, Nat.add_assoc, hr]
    have hend := absorbed_concat_of_blockEnd (ps := t.params) t.din h.fit.modulus_pos hlen hr
    rw [← hnext, ← hend] at habsorb
    have hvec' := State.setVec_vecIs (s := t) (absorbed_length t.params (ys ++ [t.din]) (q + 1))
    refine ⟨_, exec_habs_of_absorb h.mode_eq h.hopen_eq habsorb, rfl, ?_⟩
    exact { h with
      hany_eq := fun _ => rfl
      block := ⟨q + 1, hfull, h.fit.rate_pos, hvec'.of_eq rfl rfl⟩
      responses_eq := h.responses_concat _ }
  · have habsorb := State.absorb_of_vecIs (fe t.p t.udin) hvec hk hr
    refine ⟨_, exec_habs_of_absorb h.mode_eq h.hopen_eq habsorb, rfl, ?_⟩
    exact { h with
      hany_eq := fun _ => rfl
      block := ⟨q, by rw [List.length_append, List.length_singleton, hlen]; rfl, Nat.lt_of_le_of_ne hpos hr,
        hnext ▸ (State.setElem_vecIs _ hvec hk).of_eq rfl rfl⟩
      responses_eq := h.responses_concat _ }

/-! ### A latched digest -/

/-- `t` holds the valid digest `d`. -/
structure HoldsDigest (d : List Nat) (t : State) : Prop where
  mode_eq : t.mode = .ready
  dvalid_eq : t.dvalid = true
  digest_eq : (List.range 4).map t.dgAt = d

theorem take_four_eq {w : List Nat} (h : 4 ≤ w.length) :
    w.take 4 = [w.getD 0 0, w.getD 1 0, w.getD 2 0, w.getD 3 0] := by
  match w, h with
  | a :: b :: c :: d :: _, _ => rfl

/-- The vector of the padded state (R120) begins with the digest of the input; the rest of the state it leaves. -/
theorem Absorbing.padded (h : Absorbing s ys t) :
    ∃ t' w, t.padded = some t' ∧ t'.VecIs w ∧ rescueHash t.params ys = w.take 4 ∧ t'.m = t.m ∧ t'.mode = .ready ∧
      t'.inputs = t.inputs ∧ t'.responses = t.responses := by
  obtain ⟨q, hlen, hpos, hvec⟩ := h.block
  by_cases h0 : t.abspos = 0
  · have hhash := rescueHash_of_blockStart h.fit.modulus_pos h.fit.rate_pos (by rw [hlen, h0]; rfl)
    exact ⟨t, _, State.padded_of_blockStart h0, hvec, hhash, rfl, h.mode_eq, rfl, rfl⟩
  · have hwidth : (permute t.params (absorbed t.params ys q)).length = t.m := permute_length hvec.1
    exact ⟨_, _, State.padded_of_vecIs hvec h0, (State.setVec_vecIs hwidth).of_eq rfl rfl,
      rescueHash_of_partial hlen h0 hpos, rfl, h.mode_eq, rfl, rfl⟩

/-- `HFIN` latches the digest of the elements absorbed (R120). -/
theorem Absorbing.step_hfin {rest : List HostInput} (h : Absorbing s ys t) (hne : ys ≠ [])
    (hin : t.inputs = .command 0x42000000 0 :: rest) :
    ∃ t', step t = .next t' ∧ t'.inputs = rest ∧
      t'.responses = s.responses ++ List.replicate (ys.length + 2) ⟨.ok, 0⟩ ∧
      HoldsDigest (rescueHash s.params ys) t' := by
  have h' := h.present 0 rest
  obtain ⟨p, w, hpad, hw, hhash, hwidth, hmode, hrest, hresp⟩ := h'.padded
  have hfour : 4 ≤ p.m := hwidth.symm ▸ h'.fit.digest_le
  have hfin := exec_hfin_of_padded h'.mode_eq h'.hopen_eq (h'.hany_eq hne) hpad hw hfour
  refine ⟨_, (step_of_decode hin (by decide)).trans hfin, hrest, ?_, hmode, rfl, ?_⟩
  · rw [hresp, h'.responses_eq, List.append_assoc, ← List.replicate_succ']
  · rw [← h'.params_eq, hhash, take_four_eq (hw.1.symm ▸ hfour)]
    rfl

end

/-! ### The commands of a call on the channel -/

section
variable {s t : State} {rest : List HostInput}

/-- The `HABS` words of a list take the call from the elements before it to those and the list. -/
theorem Absorbing.run_habs {xs ys : List Nat} (h : Absorbing s ys t) (hxs : ∀ x ∈ xs, x < 2 ^ s.build.dataBits)
    (hin : t.inputs = xs.map (.command 0x41000000) ++ rest) :
    ∃ t', Sys2Proof.core.run xs.length t = .next t' ∧ t'.inputs = rest ∧ Absorbing s (ys ++ xs) t' := by
  induction xs generalizing ys t with
  | nil => exact ⟨t, rfl, hin, by rwa [List.append_nil]⟩
  | cons x xs ih =>
    obtain ⟨hx, hxs⟩ := List.forall_mem_cons.mp hxs
    obtain ⟨u, hu, huin, hcall⟩ := (h.present x (xs.map (.command 0x41000000) ++ rest)).habs (h.build_eq ▸ hx)
    obtain ⟨t', hrun, hrest, hend⟩ := ih hcall hxs huin
    have hstep : Sys2Proof.core.step t = .next u := (step_of_decode hin (by decide)).trans hu
    exact ⟨t', (run_succ hstep).trans hrun, hrest, by rwa [List.append_assoc] at hend⟩

/-- The `HSQZ` words of a list of indices below 4 answer those elements of the digest and change nothing (R121). -/
theorem HoldsDigest.run_hsqz {d is : List Nat} (h : HoldsDigest d t) (his : ∀ i ∈ is, i < 4)
    (hin : t.inputs = is.map (fun i => .command (BitVec.ofNat 32 (0x43000000 + i)) 0) ++ rest) :
    ∃ t', Sys2Proof.core.run is.length t = .next t' ∧ t'.inputs = rest ∧
      t'.responses = t.responses ++ is.map fun i => ⟨.ok, t.dgAt i⟩ := by
  induction is generalizing t with
  | nil => exact ⟨t, rfl, hin, (List.append_nil _).symm⟩
  | cons i is ih =>
    obtain ⟨hi, his⟩ := List.forall_mem_cons.mp his
    have hstep : Sys2Proof.core.step t = .next ((t.present 0 _).respond .ok (t.dgAt i)) :=
      (step_of_decode hin (decode_hsqz_word (by omega))).trans
        (exec_hsqz_of_lt (s := t.present 0 _) h.mode_eq h.dvalid_eq hi)
    obtain ⟨t', hrun, hrest, hresp⟩ := ih (t := (t.present 0 _).respond .ok (t.dgAt i)) { h with } his rfl
    exact ⟨t', (run_succ hstep).trans hrun, hrest, by rw [hresp, State.respond_responses, List.append_assoc]; rfl⟩

end

/-- The words of a call as the lemmas above take them from the channel. -/
theorem hashCall_append (xs : List Nat) (rest : List HostInput) :
    hashCall xs ++ rest = .command 0x40000000 0 :: (xs.map (.command 0x41000000) ++ .command 0x42000000 0 ::
      ((List.range 4).map (fun i => .command (BitVec.ofNat 32 (0x43000000 + i)) 0) ++ rest)) := by
  rw [hashCall, List.append_assoc]
  rfl

/-- Settles O50: the call is opened, the elements are absorbed one by one, the digest is latched and read out. -/
theorem hashCallAnswersRescueHash : Obligations.HashCallAnswersRescueHash := by
  unfold Obligations.HashCallAnswersRescueHash
  intro s xs rest hinv hm hne hxs hin
  rw [hashCall_append] at hin
  obtain ⟨t₁, hinit, hin₁, hopened⟩ := step_hinit (State.spongeParams (hinv.ready hm).params_ok) hm hin
  obtain ⟨t₂, habs, hin₂, habsorbed⟩ := hopened.run_habs hxs hin₁
  rw [List.nil_append] at habsorbed
  obtain ⟨t₃, hfin, hin₃, hresp₃, hdigest⟩ := habsorbed.step_hfin hne hin₂
  obtain ⟨t₄, hsqz, hin₄, hresp₄⟩ := hdigest.run_hsqz (fun i => List.mem_range.mp) hin₃
  refine ⟨t₄, ?_, hin₄, ?_, ?_⟩
  · calc Sys2Proof.core.run (xs.length + 6) s
        = Sys2Proof.core.run (xs.length + 5) t₁ := run_succ (M := Sys2Proof.core) hinit
      _ = Sys2Proof.core.run 5 t₂ := run_append habs
      _ = Sys2Proof.core.run 4 t₃ := run_succ (M := Sys2Proof.core) hfin
      _ = .next t₄ := hsqz
  · rw [← hdigest.digest_eq, List.length_map, List.length_range]
  · rw [hresp₄, hresp₃, ← hdigest.digest_eq, List.map_map]
    rfl

end Sys2Proof.Machine
end

section
/-! PROOF. The system commands (44_system.md): the decoder's answer at opcode 0, and the status registers as they answer
a command in every mode. -/

namespace Sys2Proof

/-! ### The zero word and the other words of opcode 0 (R125) -/

/-- R60: a word whose command is known, with a 1 where its format wants a 0, is rejected by that name. -/
theorem decode_of_not_zerosOk {w : CmdWord} {i : Instr} (hs : select w = some i)
    (hz : ¬ i.row.format.zerosOk w = true) : decode w = .error (.mustBeZero (bits w 31 24)) := by
  simp only [decode, hs, if_neg hz]

theorem select_of_op_zero {w : CmdWord} (hop : bits w 31 24 = 0) : select w = some .nop := by
  rw [select, hop]
  rfl

/-- `NOP` has one word, because its format fixes every bit (R55). -/
theorem decode_eq_nop_iff {w : CmdWord} : decode w = .ok .nop ↔ w = 0 :=
  ⟨fun h => (encodeDecodeRoundTrip w .nop h).1.symm, fun h => h ▸ decodeEncodeRoundTrip .nop rfl⟩

/-- R125: the zero word is `NOP`, and the must-be-zero bits reject the other words of its opcode. -/
theorem decode_of_op_zero {w : CmdWord} (hop : bits w 31 24 = 0) :
    if w = 0 then decode w = .ok .nop else decode w = .error (.mustBeZero 0) := by
  have hsel := select_of_op_zero hop
  split_ifs with hw
  · exact decode_eq_nop_iff.mpr hw
  · rw [← hop]
    exact decode_of_not_zerosOk hsel fun hz => hw (decode_eq_nop_iff.mp (decode_eq_ok_iff.mpr ⟨hsel, hz⟩))

end Sys2Proof

namespace Sys2Proof.Machine

/-! ### The two commands, in every mode (R143) -/

/-- A command that every mode allows runs its own rule, `FATAL` included. -/
theorem inMode_of_any (s : State) (rule : State → Result) : inMode .any s rule = rule s :=
  inMode_of_allowed (modeError_eq_none.mpr (.inl rfl))

theorem exec_nop (s : State) : exec .nop s = .next (s.respond .ok 0) := by
  rw [exec, execNop, inMode_of_any, done]

theorem exec_csrr_of_some {s : State} {n v : Nat} (hv : s.csrAt n = some v) :
    exec (.csrr n) s = .next (s.respond .ok v) := by
  rw [exec, execCsrr, inMode_of_any, hv]
  rfl

theorem exec_csrr_of_none {s : State} {n : Nat} (hv : s.csrAt n = none) :
    exec (.csrr n) s = .next (s.respond .index 0) := by
  rw [exec, execCsrr, inMode_of_any, hv]
  exact fail_of_not_fatal s rfl

/-! ### The status registers (R32) -/

/-- The status registers as the list of R32. -/
theorem State.csrAt_eq_getElem? (s : State) (n : Nat) :
    s.csrAt n = [s.statusWord, s.hrc, s.abspos, s.mdsCnt, s.rcCnt, s.build.mMax, s.build.nMax,
      s.build.dataBits][n]? := by
  rcases n with _ | _ | _ | _ | _ | _ | _ | _ | n <;> rfl

theorem State.csrAt_of_outside (s : State) {n : Nat} (hn : 8 ≤ n) : s.csrAt n = none := by
  rw [s.csrAt_eq_getElem?]
  exact List.getElem?_eq_none hn

theorem decode_csrr_word {n : Nat} (hn : n < 65536) : decode (BitVec.ofNat 32 (0x01000000 + n)) = .ok (.csrr n) :=
  decodeEncodeRoundTrip (.csrr n) (decide_eq_true hn)

/-- Settles O25: `NOP` passes the mode check of every mode, and its format fixes every bit of its word. -/
theorem nopChangesNothing : Obligations.NopChangesNothing := by
  unfold Obligations.NopChangesNothing
  exact ⟨exec_nop, fun w => decode_of_op_zero⟩

/-- Settles O26: the word is the encoding of `CSRR n`, and the answer is the register of R32 with that number. -/
theorem csrrReadsStatusRegisters : Obligations.CsrrReadsStatusRegisters := by
  unfold Obligations.CsrrReadsStatusRegisters
  refine ⟨fun n => decode_csrr_word, fun s => ⟨fun v n h => exec_csrr_of_some ?_, fun n hn =>
    exec_csrr_of_none (s.csrAt_of_outside hn)⟩⟩
  rw [s.csrAt_eq_getElem?]
  obtain ⟨rfl, rfl⟩ | ⟨rfl, rfl⟩ | ⟨rfl, rfl⟩ | ⟨rfl, rfl⟩ | ⟨rfl, rfl⟩ | ⟨rfl, rfl⟩ | ⟨rfl, rfl⟩ | ⟨rfl, rfl⟩ := h
  all_goals rfl

end Sys2Proof.Machine
end

section
/-! PROOF. The checks before a command's own rule (R131 to R134, R143, R144): the word that is no command, the error of
the mode, the mode `FATAL`, and which commands raise which error (R130). -/

namespace Sys2Proof.Machine

/-! ### Words that are no command, and no word (R131, R151) -/

theorem runWord_of_decode_error {cmd : CmdWord} {e : DecodeError} (s : State) (h : decode cmd = .error e) :
    runWord cmd s = .next (s.respond .illegal 0) := by
  rw [runWord, h]
  exact fail_of_not_fatal s rfl

/-- Settles O7. -/
theorem illegalWordAnswersIllegal : Obligations.IllegalWordAnswersIllegal := by
  unfold Obligations.IllegalWordAnswersIllegal
  intro s w d rest e hin hdec
  rw [step_of_command hin, runWord_of_decode_error _ hdec]
  rfl

/-- Settles O10. -/
theorem idleCoreHoldsState : Obligations.IdleCoreHoldsState := by
  unfold Obligations.IdleCoreHoldsState
  intro s hin
  rw [step, takeInput, hin]

/-! ### The error of the mode (R132 to R134, R143) -/

theorem inMode_of_modeError {need : Need} {s : State} {rule : State → Result} {e : Status}
    (h : modeError need s.mode = some e) : inMode need s rule = .next (s.respond e 0) := by
  rw [inMode, h]
  exact fail_of_not_fatal s (modeError_not_fatal h)

/-- R144: the meaning of every command is the mode check of its row in R59, and behind it the command's own rule. -/
theorem exec_eq_inMode (i : Instr) : ∃ rule : State → Result, ∀ s, exec i s = inMode i.row.need s rule := by
  cases i <;> exact ⟨_, fun _ => rfl⟩

theorem exec_of_modeError {i : Instr} {s : State} {e : Status} (h : modeError i.row.need s.mode = some e) :
    exec i s = .next (s.respond e 0) := by
  obtain ⟨rule, hexec⟩ := exec_eq_inMode i
  rw [hexec, inMode_of_modeError h]

/-- R143: the commands that every mode allows. -/
theorem need_eq_any_iff {i : Instr} : i.row.need = .any ↔ i = .nop ∨ ∃ n, i = .csrr n := by
  cases i <;> simp [Instr.row]

/-- R143: the commands that write the parameter store. -/
theorem need_eq_unconf_iff {i : Instr} :
    i.row.need = .unconf ↔ i = .pmds ∨ i = .prck ∨ i = .pcommit ∨ i = .pclear ∨ ∃ sel, i = .pcfg sel := by
  cases i <;> simp [Instr.row]

theorem modeError_fatal {need : Need} (h : need ≠ .any) : modeError need .fatal = some .fatal := by
  cases need with
  | any => exact absurd rfl h
  | ready | unconf | unconfOrReady => rfl

theorem exec_of_fatal {i : Instr} {s : State} (hm : s.mode = .fatal) (hi : i.row.need ≠ .any) :
    exec i s = .next (s.respond .fatal 0) :=
  exec_of_modeError (hm ▸ modeError_fatal hi)

theorem exec_of_unconf {i : Instr} {s : State} (hm : s.mode = .unconf) (hi : i.row.need = .ready) :
    exec i s = .next (s.respond .noparam 0) :=
  exec_of_modeError (by rw [hm, hi]; rfl)

/-- Settles O13. -/
theorem modeErrorsComeFirst : Obligations.ModeErrorsComeFirst := by
  unfold Obligations.ModeErrorsComeFirst
  intro i s
  refine ⟨fun hm hnop hcsrr => exec_of_fatal hm fun hany => ?_, exec_of_unconf, exec_of_locked⟩
  obtain rfl | ⟨n, rfl⟩ := need_eq_any_iff.mp hany
  · exact hnop rfl
  · exact hcsrr n rfl

/-! ### The mode `FATAL` (R129) -/

/-- A command that every mode allows answers and changes nothing else (R125, R126). -/
theorem exec_of_need_any {i : Instr} (hi : i.row.need = .any) (s : State) :
    ∃ st v, exec i s = .next (s.respond st v) := by
  obtain rfl | ⟨n, rfl⟩ := need_eq_any_iff.mp hi
  · exact ⟨_, _, exec_nop s⟩
  · cases hv : s.csrAt n with
    | some v => exact ⟨_, _, exec_csrr_of_some hv⟩
    | none => exact ⟨_, _, exec_csrr_of_none hv⟩

/-- Settles O14: a word is illegal, or `NOP` or `CSRR`, which write nothing, or a command that the mode check stops. -/
theorem fatalModeIsAbsorbing : Obligations.FatalModeIsAbsorbing := by
  unfold Obligations.FatalModeIsAbsorbing
  intro s w d rest hm hin
  rw [step_of_command hin]
  cases hdec : decode w with
  | error e => exact ⟨⟨.illegal, 0⟩, runWord_of_decode_error _ hdec, fun i hi => nomatch hi⟩
  | ok i =>
    rw [runWord_of_decode_ok _ hdec]
    by_cases hany : i.row.need = .any
    · obtain ⟨st, v, hexec⟩ := exec_of_need_any hany (s.present d rest)
      refine ⟨⟨st, v⟩, hexec, fun j hj hnop hcsrr => ?_⟩
      cases hj
      obtain rfl | ⟨n, rfl⟩ := need_eq_any_iff.mp hany
      · exact absurd rfl hnop
      · exact absurd rfl (hcsrr n)
    · exact ⟨⟨.fatal, 0⟩, exec_of_fatal (s := s.present d rest) hm hany, fun _ _ _ _ => rfl⟩

/-! ### Which commands raise which error (R130) -/

/-- R130's column "raised by": the commands that can answer a status. -/
def Status.RaisedBy (i : Instr) : Status → Prop
  | .ok => True
  | .illegal | .internal => False
  | .fatal => i ≠ .nop ∧ ∀ n, i ≠ .csrr n
  | .noparam => i.row.need = .ready
  | .locked => i = .pmds ∨ i = .prck ∨ i = .pcommit ∨ i = .pclear ∨ ∃ sel, i = .pcfg sel
  | .seq => i = .pstep ∨ i = .habs ∨ i = .hfin ∨ (∃ fa, i = .habsr fa) ∨ ∃ k, i = .hsqz k
  | .index => i = .pmds ∨ i = .prck ∨ ∃ k, i = .csrr k ∨ (∃ fd, i = .sget fd k) ∨ (∃ fa, i = .sput fa k) ∨
      i = .arc k ∨ i = .hsqz k ∨ i = .pcfg k ∨ i = .prdcfg k ∨ i = .prdmds k ∨ i = .prdrc k
  | .invop => ∃ fd fa, i = .finv fd fa
  | .input => i = .hfin
  | .param => i = .pcommit

theorem raisedBy_fatal {i : Instr} (h : i.row.need ≠ .any) : Status.fatal.RaisedBy i :=
  not_or.mp (mt need_eq_any_iff.mpr h) |>.imp_right not_exists.mp

/-- The mode check raises the errors of the mode for the commands that R130 names. -/
theorem raisedBy_of_modeError {i : Instr} {m : Mode} {e : Status} (h : modeError i.row.need m = some e) :
    e.RaisedBy i := by
  cases m with
  | fatal =>
    by_cases hany : i.row.need = .any
    · simp [hany, modeError] at h
    · cases (modeError_fatal hany).symm.trans h
      exact raisedBy_fatal hany
  | unconf =>
    cases hneed : i.row.need <;> simp [hneed, modeError] at h
    subst h
    exact hneed
  | ready =>
    cases hneed : i.row.need <;> simp [hneed, modeError] at h
    subst h
    exact need_eq_unconf_iff.mp hneed

/-- An answer of a command, if it gives one, carries a status that the command can raise. -/
def AnswersRaised (i : Instr) (a : Result) : Prop :=
  ∀ t, a = .next t → ∃ (u : State) (st : Status) (v : Nat), t = u.respond st v ∧ st.RaisedBy i

section
variable {i : Instr}

theorem AnswersRaised.done (s : State) (v : Nat) : AnswersRaised i (done s v) := by
  intro t h
  exact ⟨s, .ok, v, done_next h, trivial⟩

/-- The side condition of each use is a line of R130's column. -/
theorem AnswersRaised.fail {e : Status} (s : State)
    (he : e.RaisedBy i := by simp [Status.RaisedBy]) : AnswersRaised i (fail s e) := by
  intro t h
  cases h
  exact ⟨s.enterError e, e, 0, rfl, he⟩

theorem AnswersRaised.ite {c : Prop} [Decidable c] {a b : Result} (ha : AnswersRaised i a) (hb : AnswersRaised i b) :
    AnswersRaised i (if c then a else b) := by
  split
  · exact ha
  · exact hb

theorem AnswersRaised.orUninit {α : Type} {content : Option α} {rule : α → Result}
    (h : ∀ v, AnswersRaised i (rule v)) : AnswersRaised i (orUninit content rule) := by
  intro t ht
  obtain ⟨v, -, hv⟩ := orUninit_next ht
  exact h v t hv

/-- The mode check adds only errors that R130 names for the command. -/
theorem AnswersRaised.of_rule {rule : State → Result} (hexec : ∀ s, exec i s = inMode i.row.need s rule)
    (h : ∀ s, AnswersRaised i (rule s)) (s : State) : AnswersRaised i (exec i s) := by
  intro t ht
  obtain ⟨e, he, rfl⟩ | ⟨-, hrule⟩ := inMode_next ((hexec s).symm.trans ht)
  · exact ⟨s, e, 0, rfl, raisedBy_of_modeError he⟩
  · exact h s t hrule

end

/-- The errors of each command's own rule are those that R130 names for it, rule by rule. -/
theorem exec_answersRaised (i : Instr) : ∀ s, AnswersRaised i (exec i s) := by
  cases i with
  | nop | fldu | flds | szero | pinit | hinit | pclear => exact .of_rule (fun _ => rfl) fun _ => .done _ _
  | csrr =>
    refine .of_rule (fun _ => rfl) fun s => ?_
    rw [execCsrr, inMode_of_any]
    split
    · exact .done _ _
    · exact .fail s
  | fst | fmv | fpow | sboxf | sboxi | mdsmul | perm =>
    exact .of_rule (fun _ => rfl) fun _ => .orUninit fun _ => .done _ _
  | fadd | fsub | fmul | feq | flt =>
    exact .of_rule (fun _ => rfl) fun _ => .orUninit fun _ => .orUninit fun _ => .done _ _
  | finv => exact .of_rule (fun _ => rfl) fun s => .orUninit fun _ => .ite (.fail s) (.done _ _)
  | sget | sput | arc | pstep | habs =>
    exact .of_rule (fun _ => rfl) fun s => .ite (.fail s) <| .orUninit fun _ => .done _ _
  | habsr =>
    exact .of_rule (fun _ => rfl) fun s => .ite (.fail s) <| .orUninit fun _ => .orUninit fun _ => .done _ _
  | hfin =>
    exact .of_rule (fun _ => rfl) fun s => .ite (.fail s) <| .ite (.fail s) <| .orUninit fun _ =>
      .orUninit fun _ => .orUninit fun _ => .orUninit fun _ => .orUninit fun _ => .done _ _
  | hsqz => exact .of_rule (fun _ => rfl) fun s => .ite (.fail s) <| .ite (.fail s) <| .done s _
  | pcfg | prdcfg =>
    refine .of_rule (fun _ => rfl) fun s => ?_
    split
    · exact .done _ _
    · exact .fail s
  | pmds | prck | pcommit => exact .of_rule (fun _ => rfl) fun _ => .ite (.done _ _) (.fail _)
  | prdmds | prdrc => exact .of_rule (fun _ => rfl) fun s => .ite (.fail s) (.done s _)

/-- Settles O18: the status answered is one that the command can raise, read off status by status. -/
theorem errorsComeFromTheirCommands : Obligations.ErrorsComeFromTheirCommands := by
  unfold Obligations.ErrorsComeFromTheirCommands
  intro i s t r h hlog
  obtain ⟨u, st, v, rfl, hraised⟩ := exec_answersRaised i s t h
  obtain rfl := State.respond_last hlog
  cases st <;> simp_all [Status.RaisedBy]

end Sys2Proof.Machine
end

section
/-! PROOF. Locations that hold no value (R21, R141): which commands stop on them, when, and that a state element
that holds a value keeps one. -/

namespace Sys2Proof.Machine

/-! ### Reads of the whole vector -/

theorem values_eq_none {l : List Elem} : values l = none ↔ none ∈ l := by
  induction l with
  | nil => simp [values]
  | cons e rest ih => cases e <;> simp [values, ih]

theorem State.readVec_eq_none {s : State} : s.readVec = none ↔ ∃ j < s.m, s.sAt j = none := by
  rw [State.readVec, values_eq_none]
  simp

theorem State.mapVec_eq_none {s : State} {layer : List Nat → List Nat} :
    s.mapVec layer = none ↔ ∃ j < s.m, s.sAt j = none := by
  rw [State.mapVec, Option.map_eq_none_iff, State.readVec_eq_none]

theorem State.permuted_eq_none {s : State} : s.permuted = none ↔ ∃ j < s.m, s.sAt j = none := by
  rw [State.permuted, Option.map_eq_none_iff, State.mapVec_eq_none]

/-- A vector whose elements all hold values has a content. -/
theorem State.exists_vecIs {s : State} (h : ∀ j < s.m, (s.sAt j).isSome) : ∃ u, s.VecIs u := by
  cases hread : s.readVec with
  | some u => exact ⟨u, State.readVec_eq_some.mp hread⟩
  | none =>
    obtain ⟨j, hj, hnone⟩ := State.readVec_eq_none.mp hread
    simpa [hnone] using h j hj

/-! ### Commands that read a location without a value (O58) -/

section
variable {s : State} {fa fb : Reg} {i : Nat} (hm : s.mode = .ready)
include hm

/-- A command whose rule begins with a read of one register. -/
theorem exec_of_readOne_none {c : Instr} {rule : State → Nat → Result}
    (hexec : ∀ s, exec c s = inMode .ready s fun s => readReg s fa (rule s)) (ha : s.f[fa] = none) :
    exec c s = .fault .uninitRead := by
  rw [hexec, inMode_of_ready hm, readReg_of_none ha]

/-- A command whose rule begins with the reads of two registers. -/
theorem exec_of_readTwo_none {c : Instr} {rule : State → Nat → Nat → Result}
    (hexec : ∀ s, exec c s = inMode .ready s fun s => readReg s fa fun a => readReg s fb (rule s a))
    (h : s.f[fa] = none ∨ s.f[fb] = none) : exec c s = .fault .uninitRead := by
  rw [hexec, inMode_of_ready hm]
  cases ha : s.f[fa] with
  | none => rw [readReg_of_none ha]
  | some a => rw [readReg_of_some ha, readReg_of_none (h.resolve_left (by simp [ha]))]

theorem exec_sput_of_none (ha : s.f[fa] = none) (hi : i < s.m) : exec (.sput fa i) s = .fault .uninitRead := by
  rw [exec, execSput, inMode_of_ready hm, if_neg hi.not_ge, readReg_of_none ha]

theorem exec_habsr_of_none (ha : s.f[fa] = none) (ho : s.hopen = true) :
    exec (.habsr fa) s = .fault .uninitRead := by
  rw [exec, execHabsr, inMode_of_ready hm, if_neg (by simp [ho]), readReg_of_none ha]

theorem exec_sget_of_none (fd : Reg) (hi : i < s.m) (hnone : s.sAt i = none) :
    exec (.sget fd i) s = .fault .uninitRead := by
  rw [exec, execSget, inMode_of_ready hm, if_neg hi.not_ge, readElem_of_none hnone]

variable (hnone : ∃ j < s.m, s.sAt j = none)
include hnone

/-- A command whose rule begins with a read of the whole vector. -/
theorem exec_of_layer_none {c : Instr} {layer : State → List Nat → List Nat} {rule : State → State → Result}
    (hexec : ∀ s, exec c s = inMode .ready s fun s => orUninit (s.mapVec (layer s)) (rule s)) :
    exec c s = .fault .uninitRead := by
  rw [hexec, inMode_of_ready hm, State.mapVec_eq_none.mpr hnone, orUninit_none]

theorem exec_perm_of_none : exec .perm s = .fault .uninitRead := by
  rw [exec, execPerm, inMode_of_ready hm, State.permuted_eq_none.mpr hnone, orUninit_none]

theorem exec_arc_of_none {k : Nat} (hk : k < 2 * s.n) : exec (.arc k) s = .fault .uninitRead := by
  rw [exec, execArc, inMode_of_ready hm, if_neg hk.not_ge, State.mapVec_eq_none.mpr hnone, orUninit_none]

theorem exec_pstep_of_none (hh : s.hrc < 2 * s.n) : exec .pstep s = .fault .uninitRead := by
  rw [exec, execPstep, inMode_of_ready hm, if_neg hh.not_ge, State.mapVec_eq_none.mpr hnone, orUninit_none]

end

/-- Settles O58: the reads come right behind the mode check and the check of the index or the counter. -/
theorem unwrittenReadIsFault : Obligations.UnwrittenReadIsFault := by
  unfold Obligations.UnwrittenReadIsFault
  intro s fd fa fb i hm
  refine ⟨fun ha => ⟨fun c hc => ?_, exec_sput_of_none hm ha, exec_habsr_of_none hm ha⟩, fun hi hnone => ?_⟩
  · simp only [List.mem_cons, List.not_mem_nil, or_false] at hc
    obtain rfl | rfl | rfl | rfl | rfl | rfl | rfl | rfl | rfl | rfl | rfl | rfl | rfl | rfl := hc
    iterate 4
      · exact exec_of_readOne_none hm (fun _ => rfl) ha
    iterate 5
      · exact exec_of_readTwo_none hm (fun _ => rfl) (.inl ha)
      · exact exec_of_readTwo_none hm (fun _ => rfl) (.inr ha)
  · have hvec : ∃ j < s.m, s.sAt j = none := ⟨i, hi, hnone⟩
    refine ⟨fun c hc => ?_, fun k => exec_arc_of_none hm hvec, exec_pstep_of_none hm hvec⟩
    simp only [List.mem_cons, List.not_mem_nil, or_false] at hc
    obtain rfl | rfl | rfl | rfl | rfl := hc
    · exact exec_sget_of_none hm fd hi hnone
    iterate 3
      · exact exec_of_layer_none hm hvec fun _ => rfl
    · exact exec_perm_of_none hm hvec

/-! ### A value stays a value (R141) -/

/-- Every state element that holds a value in `s` holds one in `t`. -/
def KeepsValues (s t : State) : Prop := ∀ j, (s.sAt j).isSome → (t.sAt j).isSome

/-- Whether an element holds a value is read off `S` alone. -/
theorem KeepsValues.of_sv_eq {s t u : State} (h : KeepsValues s u) (hsv : t.sv = u.sv) : KeepsValues s t := by
  intro j hj
  rw [State.sAt, hsv]
  exact h j hj

theorem KeepsValues.refl (s : State) : KeepsValues s s := fun _ hj => hj

theorem KeepsValues.setElem {s u : State} (h : KeepsValues s u) (k v : Nat) : KeepsValues s (u.setElem k v) := by
  intro j hj
  rw [State.setElem_sAt]
  split
  · rfl
  · exact h j hj

theorem KeepsValues.setVec {s u : State} (h : KeepsValues s u) (w : List Nat) : KeepsValues s (u.setVec w) := by
  intro j hj
  rw [State.setVec_sAt]
  split
  · rfl
  · exact h j hj

/-- A write of an element or of the vector writes values, and no command writes `S` in another way (R24). -/
theorem CommandEffect.keepsValues {i : Instr} {s t : State} (h : CommandEffect i s t) : KeepsValues s t := by
  have hs := KeepsValues.refl s
  cases h with
  | elem fa k v => exact (hs.setElem k v).of_sv_eq rfl
  | absorbed v => exact (hs.setElem s.abspos v).of_sv_eq rfl
  | layer u | rounds u | opened u | padClosed u => exact (hs.setVec u).of_sv_eq rfl
  | blockDone v u => exact ((hs.setElem s.abspos v).setVec u).of_sv_eq rfl
  | config sel v s' _ _ _ hcfg => rw [State.setCfg_frame hcfg]; exact hs.of_sv_eq rfl
  | _ => exact hs.of_sv_eq rfl

/-- Settles O23: the two commands that fill the vector write `M` zeros into it. -/
theorem stateElementsKeepValues : Obligations.StateElementsKeepValues := by
  unfold Obligations.StateElementsKeepValues
  refine ⟨fun i s t hi hm h => ?_, fun i s t h => (exec_effect h).keepsValues⟩
  obtain rfl | rfl := hi
  · cases (exec_szero_of_ready hm).symm.trans h
    exact State.setVec_filled s.fitsVec_zeros
  · cases (exec_hinit_of_ready hm).symm.trans h
    exact State.setVec_filled s.fitsVec_zeros

/-! ### In an open call every read finds a value (R116, R141) -/

section
variable {s : State} (h : Inv s) (hm : s.mode = .ready) (ho : s.hopen = true)
include h hm ho

theorem Inv.absorb_ne_none (v : Nat) : s.absorb v ≠ none := by
  obtain ⟨u, hu⟩ := State.exists_vecIs ((h.ready hm).open_filled ho)
  have hfit := State.spongeParams (h.ready hm).params_ok
  have hpos : s.abspos < s.m := (h.ready hm).abspos_range.trans_le hfit.rate_le
  by_cases hr : s.abspos + 1 = s.rate
  · simp [State.absorb_of_blockEnd v hu hpos hr]
  · simp [State.absorb_of_vecIs v hu hpos hr]

theorem Inv.padded_ne_none : s.padded ≠ none := by
  obtain ⟨u, hu⟩ := State.exists_vecIs ((h.ready hm).open_filled ho)
  by_cases hp : s.abspos = 0
  · simp [State.padded_of_blockStart hp]
  · simp [State.padded_of_vecIs hu hp]

/-- The digest is read from elements that exist, because `M` is at least 4 (R90). -/
theorem Inv.padded_sAt_ne_none {s' : State} (hs' : s.padded = some s') {j : Nat} (hj : j < 4) : s'.sAt j ≠ none := by
  have hjm : j < s.m := hj.trans_le (State.spongeParams (h.ready hm).params_ok).digest_le
  rw [Option.ne_none_iff_isSome]
  obtain ⟨-, rfl⟩ | ⟨-, u, hu, rfl⟩ := State.padded_eq_some.mp hs'
  · exact (h.ready hm).open_filled ho j hjm
  · obtain ⟨w, hw, rfl⟩ := State.permuted_fits hu
    exact State.setVec_filled hw j hjm

end

/-! ### The commands that can stop (R141) -/

/-- The commands of R141's list that read one register. -/
def Instr.ReadsOne (i : Instr) (fa : Reg) : Prop :=
  i = .fst fa ∨ (∃ fd, i = .fmv fd fa) ∨ (∃ fd, i = .fpow fd fa) ∨ (∃ fd, i = .finv fd fa) ∨
    (∃ k, i = .sput fa k) ∨ i = .habsr fa

/-- The commands of R141's list that read two registers. -/
def Instr.ReadsTwo (i : Instr) (fa fb : Reg) : Prop :=
  (∃ fd, i = .fadd fd fa fb ∨ i = .fsub fd fa fb ∨ i = .fmul fd fa fb) ∨ i = .feq fa fb ∨ i = .flt fa fb

/-- The commands of R141's list that read elements of `S`. -/
def Instr.ReadsVec (i : Instr) : Prop :=
  (∃ fd k, i = .sget fd k) ∨ i = .sboxf ∨ i = .sboxi ∨ i = .mdsmul ∨ (∃ k, i = .arc k) ∨ i = .pstep ∨
    i = .perm

/-- R141's list: the command reads a location that holds no value. -/
def Instr.ReadsUnwritten (i : Instr) (s : State) : Prop :=
  (∃ fa, Instr.ReadsOne i fa ∧ s.f[fa] = none) ∨
    (∃ fa fb, Instr.ReadsTwo i fa fb ∧ (s.f[fa] = none ∨ s.f[fb] = none)) ∨
    (Instr.ReadsVec i ∧ ∃ j < s.m, s.sAt j = none)

/-- The answer is a next state, or it is `UninitRead` and `reason` holds. -/
def StopsOnlyIf (reason : Prop) (a : Result) : Prop :=
  (∃ t, a = .next t) ∨ (a = .fault .uninitRead ∧ reason)

section
variable {i : Instr} {s : State} {reason : Prop}

theorem StopsOnlyIf.done (s : State) (v : Nat) : StopsOnlyIf reason (done s v) := .inl ⟨_, rfl⟩

theorem StopsOnlyIf.fail (s : State) (e : Status) : StopsOnlyIf reason (fail s e) := .inl ⟨_, rfl⟩

theorem StopsOnlyIf.ite {c : Prop} [Decidable c] {a b : Result} (ha : c → StopsOnlyIf reason a)
    (hb : ¬c → StopsOnlyIf reason b) : StopsOnlyIf reason (if c then a else b) := by
  split
  · next hc => exact ha hc
  · next hc => exact hb hc

theorem StopsOnlyIf.orUninit {α : Type} {content : Option α} {rule : α → Result} (hnone : content = none → reason)
    (h : ∀ v, content = some v → StopsOnlyIf reason (rule v)) : StopsOnlyIf reason (orUninit content rule) := by
  cases content with
  | some v => exact h v rfl
  | none => exact .inr ⟨rfl, hnone rfl⟩

/-- The mode check stops no command. -/
theorem StopsOnlyIf.of_rule {rule : State → Result} (hexec : ∀ s, exec i s = inMode i.row.need s rule)
    (h : StopsOnlyIf reason (rule s)) : StopsOnlyIf reason (exec i s) := by
  cases he : modeError i.row.need s.mode with
  | some e => exact .inl ⟨_, exec_of_modeError he⟩
  | none => rwa [hexec, inMode_of_allowed he]

/-- A command that needs mode `READY` stops only there. -/
theorem StopsOnlyIf.of_ready {rule : State → Result} (hexec : ∀ s, exec i s = inMode .ready s rule)
    (h : s.mode = .ready → StopsOnlyIf reason (rule s)) : StopsOnlyIf (s.mode = .ready ∧ reason) (exec i s) := by
  rw [hexec]
  cases he : modeError .ready s.mode with
  | some e => exact .inl ⟨_, inMode_of_modeError he⟩
  | none =>
    have hm : s.mode = .ready := by simpa using modeError_eq_none.mp he
    rw [inMode_of_allowed he]
    exact (h hm).imp_right fun hstop => ⟨hstop.1, hm, hstop.2⟩

/-- A read of the one register that R141 names. -/
theorem StopsOnlyIf.readOne {fa : Reg} {rule : Nat → Result} (h : ∀ v, StopsOnlyIf (Instr.ReadsUnwritten i s) (rule v))
    (hi : Instr.ReadsOne i fa := by simp [Instr.ReadsOne]) :
    StopsOnlyIf (Instr.ReadsUnwritten i s) (readReg s fa rule) :=
  .orUninit (fun ha => .inl ⟨fa, hi, ha⟩) fun v _ => h v

/-- The reads of the two registers that R141 names. -/
theorem StopsOnlyIf.readTwo {fa fb : Reg} {rule : Nat → Nat → Result}
    (h : ∀ a b, StopsOnlyIf (Instr.ReadsUnwritten i s) (rule a b))
    (hi : Instr.ReadsTwo i fa fb := by simp [Instr.ReadsTwo]) :
    StopsOnlyIf (Instr.ReadsUnwritten i s) (readReg s fa fun a => readReg s fb (rule a)) :=
  .orUninit (fun ha => .inr (.inl ⟨fa, fb, hi, .inl ha⟩)) fun a _ =>
    .orUninit (fun hb => .inr (.inl ⟨fa, fb, hi, .inr hb⟩)) fun b _ => h a b

/-- A read of elements of `S`, which finds none only where one of `S[0 … M − 1]` holds no value. -/
theorem StopsOnlyIf.readVec {α : Type} {content : Option α} {rule : α → Result}
    (hnone : content = none → ∃ j < s.m, s.sAt j = none) (h : ∀ v, StopsOnlyIf (Instr.ReadsUnwritten i s) (rule v))
    (hi : Instr.ReadsVec i := by simp [Instr.ReadsVec]) :
    StopsOnlyIf (Instr.ReadsUnwritten i s) (Machine.orUninit content rule) :=
  .orUninit (fun hc => .inr (.inr ⟨hi, hnone hc⟩)) fun v _ => h v

/-- `HFIN` reads only in an open call, where it finds values. -/
theorem exec_hfin_stopsOnlyIf (h : Inv s) : StopsOnlyIf (s.mode = .ready ∧ reason) (exec .hfin s) :=
  .of_ready (fun _ => rfl) fun hm => .ite (fun _ => .fail s .seq) fun ho => .ite (fun _ => .fail s .input) fun _ =>
    have ho : s.hopen = true := by simpa using ho
    .orUninit (fun hnone => absurd hnone (h.padded_ne_none hm ho)) fun s' hs' =>
      have hread {j : Nat} (hj : j < 4) (hnone : s'.sAt j = none) : reason :=
        absurd hnone (h.padded_sAt_ne_none hm ho hs' hj)
      .orUninit (hread (by decide)) fun _ _ => .orUninit (hread (by decide)) fun _ _ =>
        .orUninit (hread (by decide)) fun _ _ => .orUninit (hread (by decide)) fun _ _ => .done _ _

end

/-- In a state that meets the invariant a command stops only in mode `READY` and only on R141's list. -/
theorem exec_stopsOnlyIf (i : Instr) {s : State} (h : Inv s) :
    StopsOnlyIf (s.mode = .ready ∧ Instr.ReadsUnwritten i s) (exec i s) := by
  cases i with
  | nop | fldu | flds | szero | pinit | hinit | pclear => exact .of_rule (fun _ => rfl) (.done _ _)
  | csrr =>
    refine .of_rule (fun _ => rfl) ?_
    rw [execCsrr, inMode_of_any]
    split
    · exact .done _ _
    · exact .fail _ _
  | pcfg | prdcfg =>
    refine .of_rule (fun _ => rfl) ?_
    split
    · exact .done _ _
    · exact .fail _ _
  | pmds | prck | pcommit => exact .of_rule (fun _ => rfl) (.ite (fun _ => .done _ _) fun _ => .fail _ _)
  | prdmds | prdrc => exact .of_rule (fun _ => rfl) (.ite (fun _ => .fail _ _) fun _ => .done _ _)
  | hsqz =>
    exact .of_rule (fun _ => rfl) (.ite (fun _ => .fail _ _) fun _ => .ite (fun _ => .fail _ _) fun _ => .done _ _)
  | fst | fmv | fpow => exact .of_ready (fun _ => rfl) fun _ => .readOne fun _ => .done _ _
  | finv =>
    exact .of_ready (fun _ => rfl) fun _ => .readOne fun _ => .ite (fun _ => .fail _ _) fun _ => .done _ _
  | fadd | fsub | fmul | feq | flt => exact .of_ready (fun _ => rfl) fun _ => .readTwo fun _ _ => .done _ _
  | sput => exact .of_ready (fun _ => rfl) fun _ => .ite (fun _ => .fail _ _) fun _ => .readOne fun _ => .done _ _
  | sget fd k =>
    exact .of_ready (fun _ => rfl) fun _ => .ite (fun _ => .fail _ _) fun hk =>
      .readVec (fun hnone => ⟨k, Nat.lt_of_not_le hk, hnone⟩) fun _ => .done _ _
  | sboxf | sboxi | mdsmul =>
    exact .of_ready (fun _ => rfl) fun _ => .readVec State.mapVec_eq_none.mp fun _ => .done _ _
  | arc | pstep =>
    exact .of_ready (fun _ => rfl) fun _ => .ite (fun _ => .fail _ _) fun _ =>
      .readVec State.mapVec_eq_none.mp fun _ => .done _ _
  | perm => exact .of_ready (fun _ => rfl) fun _ => .readVec State.permuted_eq_none.mp fun _ => .done _ _
  | habs =>
    exact .of_ready (fun _ => rfl) fun hm => .ite (fun _ => .fail _ _) fun ho =>
      .orUninit (fun hnone => absurd hnone (h.absorb_ne_none hm (by simpa using ho) _)) fun _ _ => .done _ _
  | habsr =>
    exact .of_ready (fun _ => rfl) fun hm => .ite (fun _ => .fail _ _) fun ho => .readOne fun v =>
      .orUninit (fun hnone => absurd hnone (h.absorb_ne_none hm (by simpa using ho) v)) fun _ _ => .done _ _
  | hfin => exact exec_hfin_stopsOnlyIf h

/-- Settles O24. -/
theorem uninitReadOnlyFromListedCommands : Obligations.UninitReadOnlyFromListedCommands := by
  unfold Obligations.UninitReadOnlyFromListedCommands
  intro i s h
  exact exec_stopsOnlyIf i h

end Sys2Proof.Machine
end

section
/-! PROOF. Several cores (R149): one equation for each answer of a core's step, and the schedule, along which each core
runs as it runs alone. -/

namespace Sys2Proof.Machine

/-! ### One step of a platform -/

theorem platformStep_of_none {k : Nat} {cores : List State} (h : cores[k]? = none) :
    platformStep k cores = .next cores := by
  rw [platformStep, h]

section
variable {k : Nat} {cores : List State} {s : State} (hs : cores[k]? = some s)
include hs

theorem platformStep_of_next {t : State} (h : step s = .next t) : platformStep k cores = .next (cores.set k t) := by
  simp only [platformStep, hs, h]

theorem platformStep_of_fault {r : Fault} (h : step s = .fault r) : platformStep k cores = .fault r := by
  simp only [platformStep, hs, h]

end

/-! ### A schedule -/

theorem platformRun_cons {k : Nat} {rest : List Nat} {cores cs : List State} (h : platformStep k cores = .next cs) :
    platformRun (k :: rest) cores = platformRun rest cs := by
  rw [platformRun, h]

/-- A run that ends begins with a step that goes on. -/
theorem run_succ_next {M : Host.Core} {k : Nat} {s t : M.State} (h : M.run (k + 1) s = .next t) :
    ∃ u, M.step s = .next u ∧ M.run k u = .next t := by
  cases hs : M.step s with
  | next u => exact ⟨u, rfl, (run_succ hs).symm.trans h⟩
  | fault | refused =>
    rw [Host.Core.run, hs] at h
    cases h

/-- Each core of `cores`, run alone for as many steps as the schedule gives it, ends as the core of `ends` in its
place. -/
def EndAlone (schedule : List Nat) (cores ends : List State) : Prop :=
  ∀ (k : Nat) (s t : State), cores[k]? = some s → ends[k]? = some t →
    Sys2Proof.core.run (schedule.count k) s = .next t

section
variable {cores ends : List State} {k : Nat} {rest : List Nat}

/-- The empty schedule moves no core. -/
theorem EndAlone.eq_of_nil (hlen : ends.length = cores.length) (h : EndAlone [] cores ends) : ends = cores := by
  refine List.ext_getElem hlen fun j hj hj' => ?_
  have hrun := h j _ _ (List.getElem?_eq_getElem hj') (List.getElem?_eq_getElem hj)
  exact (Host.Outcome.next.inj hrun).symm

/-- A turn of a core that does not exist is no core's. -/
theorem EndAlone.tail_of_none (hk : cores[k]? = none) (h : EndAlone (k :: rest) cores ends) :
    EndAlone rest cores ends := by
  intro j s t hs ht
  have hne : k ≠ j := by
    rintro rfl
    simp [hs] at hk
  rw [← List.count_cons_of_ne hne]
  exact h j s t hs ht

/-- A turn of core `k` is the first step of its run alone, and is no other core's. -/
theorem EndAlone.tail_of_some {s : State} (hlen : ends.length = cores.length) (hk : cores[k]? = some s)
    (h : EndAlone (k :: rest) cores ends) : ∃ u, step s = .next u ∧ EndAlone rest (cores.set k u) ends := by
  obtain ⟨hlt, -⟩ := List.getElem?_eq_some_iff.mp hk
  have hend := List.getElem?_eq_getElem (hlt.trans_eq hlen.symm)
  have hrun := h k s _ hk hend
  rw [List.count_cons_self] at hrun
  obtain ⟨u, hu, hrest⟩ : ∃ u : State, step s = .next u ∧ Sys2Proof.core.run (rest.count k) u = .next ends[k] :=
    run_succ_next hrun
  refine ⟨u, hu, fun j v t hv ht => ?_⟩
  by_cases hkj : k = j
  · subst hkj
    rw [List.getElem?_set_self hlt] at hv
    cases hv
    cases hend.symm.trans ht
    exact hrest
  · rw [List.getElem?_set_ne hkj] at hv
    rw [← List.count_cons_of_ne hkj]
    exact h j v t hv ht

end

/-- Under every schedule each core ends where it ends alone (R149). -/
theorem platformRun_of_endAlone {schedule : List Nat} {cores ends : List State} (hlen : ends.length = cores.length)
    (h : EndAlone schedule cores ends) : platformRun schedule cores = .next ends := by
  induction schedule generalizing cores with
  | nil => rw [h.eq_of_nil hlen, platformRun]
  | cons k rest ih =>
    cases hk : cores[k]? with
    | none => exact (platformRun_cons (platformStep_of_none hk)).trans (ih hlen (h.tail_of_none hk))
    | some s =>
      obtain ⟨u, hu, hrest⟩ := h.tail_of_some hlen hk
      rw [platformRun_cons (platformStep_of_next hk hu)]
      exact ih (hlen.trans List.length_set.symm) hrest

/-- Settles O59: one step writes one place of the list, and a schedule is that many steps of each core alone. -/
theorem coresAreIndependent : Obligations.CoresAreIndependent := by
  unfold Obligations.CoresAreIndependent
  refine ⟨fun k cores => ⟨fun hk => platformStep_of_none (List.getElem?_eq_none hk), fun s hs =>
    ⟨fun t ht => ?_, fun r hr => platformStep_of_fault hs hr⟩⟩, fun _ _ _ hlen h => platformRun_of_endAlone hlen h⟩
  obtain ⟨hlt, -⟩ := List.getElem?_eq_some_iff.mp hs
  exact ⟨cores.set k t, platformStep_of_next hs ht, List.length_set, List.getElem?_set_self hlt,
    fun j hj => List.getElem?_set_ne hj.symm⟩

end Sys2Proof.Machine
end

section
/-! PROOF. The reset input (R152): what a step on it leaves, and the values of R36 it leaves there. -/

namespace Sys2Proof.Machine

/-- R152, U7: the step is the same whether the core is idle or a command executes. -/
theorem step_of_reset {s : State} {w : CmdWord} {d : Nat} {rest : List HostInput}
    (h : s.inputs = .reset :: rest ∨ s.inputs = .resetDuring w d :: rest) : step s = .next (s.afterReset rest) := by
  obtain hidle | hduring := h
  · simp [step, takeInput, hidle]
  · simp [step, takeInput, hduring]

/-- Settles O8: the state after reset holds the reset values of its build and the host's side of the channels. -/
theorem resetInputGivesResetState : Obligations.ResetInputGivesResetState := by
  unfold Obligations.ResetInputGivesResetState
  intro s w d rest h
  obtain ⟨hmode, hfcause, hp, hm, hn, halpha, hainv, hrate, hmdsBuf, hrcBuf, hmdsCnt, hrcCnt, hf, -, hsv, hhrc, hhopen,
    hhany, habspos, hdg, hdvalid⟩ := resetStateValues s.build
  exact ⟨s.afterReset rest, step_of_reset h, hmode, hfcause, hp, hm, hn, halpha, hainv, hrate, hmdsCnt, hrcCnt, hmdsBuf,
    hrcBuf, hf, hsv, hdg, hhrc, hhopen, hhany, hdvalid, habspos, rfl, rfl, rfl⟩

end Sys2Proof.Machine
end
